-- ==== Sys2Proof/Word.lean ====
section
/-! DEFINITION. Word.lean: the words of the block. Bus bytes, CMD codes and data registers are one byte
(30_encoding R86); micro-state codes are six bits (30_encoding R83). -/

namespace Sys2Proof

/-- One byte: a buffer byte, a command code, a data register. -/
abbrev Byte := BitVec 8

/-- A micro-state code, the content of STATE and XCONT (30_encoding R83). -/
abbrev MicroCode := BitVec 6

/-- An encoded instruction. The opcode table has two formats whose codes overlap: a command byte written to port
offset 0 (30_encoding R71) and a code held in STATE (30_encoding R83), so the format is part of the word. -/
inductive Code where
  | cmd (b : Byte)
  | micro (c : MicroCode)
  deriving DecidableEq, Repr

end Sys2Proof
end

