-- ==== Sys2Proof/Syntax.lean ====
section
/-! DEFINITION. Syntax.lean: one constructor for each of the 49 rows of the opcode table: the three commands
(30_encoding R71) and the 46 micro-states (30_encoding R83). No row has an operand field: a command's operands stand in
port registers (30_encoding R73). -/

namespace Sys2Proof

/-- The instructions, in the order of the opcode table. -/
inductive Instr where
  -- commands
  | init | transfer | writeByte
  -- decode, initializer, set-up
  | idle | in0 | tr0 | wb0
  -- start condition
  | st0 | st1 | st2 | st3 | st4 | st5 | st6
  -- byte dispatch and write phase
  | bd | wr0 | wr1 | wr2 | wr3 | wr4 | wr5 | wr6
  -- NACK abort
  | nk0 | nk1 | nk2
  -- read phase
  | rd0 | rd1 | rd2 | rd3 | rd4 | rd5
  -- loop tail
  | lp
  -- stop condition
  | sp0 | sp1 | sp2 | sp3 | sp4 | sp5 | sp6 | sp7
  -- transfer primitive
  | xf0 | xf1 | xf2 | xf3 | xf4 | xf5 | xf6 | xf7 | xf8
  deriving DecidableEq, Repr

end Sys2Proof
end

