-- ==== Sys2Proof/Decode.lean ====
section
/-! DEFINITION. Decode.lean: the code of every micro-state (30_encoding R83) and command (30_encoding R71), the decoder,
total and rejecting every reserved code by name (30_encoding R75, R84), and the encoder. -/

namespace Sys2Proof

/-- Why a code is no instruction. -/
inductive DecodeError where
  /-- A reserved CMD value, 0x00 or 0x04 to 0xFF (30_encoding R75). -/
  | reservedCommand (b : Byte)
  /-- A reserved micro-state code (30_encoding R84). -/
  | reservedMicroState (c : MicroCode)
  deriving DecidableEq, Repr

/-! The micro-state codes of 30_encoding R83. -/

@[simp] abbrev Micro.IDLE : MicroCode := 0x00#6
@[simp] abbrev Micro.IN0 : MicroCode := 0x01#6
@[simp] abbrev Micro.TR0 : MicroCode := 0x02#6
@[simp] abbrev Micro.WB0 : MicroCode := 0x03#6
@[simp] abbrev Micro.ST0 : MicroCode := 0x08#6
@[simp] abbrev Micro.ST1 : MicroCode := 0x09#6
@[simp] abbrev Micro.ST2 : MicroCode := 0x0A#6
@[simp] abbrev Micro.ST3 : MicroCode := 0x0B#6
@[simp] abbrev Micro.ST4 : MicroCode := 0x0C#6
@[simp] abbrev Micro.ST5 : MicroCode := 0x0D#6
@[simp] abbrev Micro.ST6 : MicroCode := 0x0E#6
@[simp] abbrev Micro.BD : MicroCode := 0x0F#6
@[simp] abbrev Micro.WR0 : MicroCode := 0x10#6
@[simp] abbrev Micro.WR1 : MicroCode := 0x11#6
@[simp] abbrev Micro.WR2 : MicroCode := 0x12#6
@[simp] abbrev Micro.WR3 : MicroCode := 0x13#6
@[simp] abbrev Micro.WR4 : MicroCode := 0x14#6
@[simp] abbrev Micro.WR5 : MicroCode := 0x15#6
@[simp] abbrev Micro.WR6 : MicroCode := 0x16#6
@[simp] abbrev Micro.NK0 : MicroCode := 0x18#6
@[simp] abbrev Micro.NK1 : MicroCode := 0x19#6
@[simp] abbrev Micro.NK2 : MicroCode := 0x1A#6
@[simp] abbrev Micro.RD0 : MicroCode := 0x20#6
@[simp] abbrev Micro.RD1 : MicroCode := 0x21#6
@[simp] abbrev Micro.RD2 : MicroCode := 0x22#6
@[simp] abbrev Micro.RD3 : MicroCode := 0x23#6
@[simp] abbrev Micro.RD4 : MicroCode := 0x24#6
@[simp] abbrev Micro.RD5 : MicroCode := 0x25#6
@[simp] abbrev Micro.LP : MicroCode := 0x27#6
@[simp] abbrev Micro.SP0 : MicroCode := 0x28#6
@[simp] abbrev Micro.SP1 : MicroCode := 0x29#6
@[simp] abbrev Micro.SP2 : MicroCode := 0x2A#6
@[simp] abbrev Micro.SP3 : MicroCode := 0x2B#6
@[simp] abbrev Micro.SP4 : MicroCode := 0x2C#6
@[simp] abbrev Micro.SP5 : MicroCode := 0x2D#6
@[simp] abbrev Micro.SP6 : MicroCode := 0x2E#6
@[simp] abbrev Micro.SP7 : MicroCode := 0x2F#6
@[simp] abbrev Micro.XF0 : MicroCode := 0x30#6
@[simp] abbrev Micro.XF1 : MicroCode := 0x31#6
@[simp] abbrev Micro.XF2 : MicroCode := 0x32#6
@[simp] abbrev Micro.XF3 : MicroCode := 0x33#6
@[simp] abbrev Micro.XF4 : MicroCode := 0x34#6
@[simp] abbrev Micro.XF5 : MicroCode := 0x35#6
@[simp] abbrev Micro.XF6 : MicroCode := 0x36#6
@[simp] abbrev Micro.XF7 : MicroCode := 0x37#6
@[simp] abbrev Micro.XF8 : MicroCode := 0x38#6

/-! The command codes of 30_encoding R71. -/

@[simp] abbrev Cmd.INIT : Byte := 0x01#8
@[simp] abbrev Cmd.TRANSFER : Byte := 0x02#8
@[simp] abbrev Cmd.WRITE_BYTE : Byte := 0x03#8

/-- The rows of the micro-state table (30_encoding R83), IDLE to LP. -/
def microRowsLow : List (MicroCode × Instr) :=
  [(Micro.IDLE, .idle), (Micro.IN0, .in0), (Micro.TR0, .tr0), (Micro.WB0, .wb0),
   (Micro.ST0, .st0), (Micro.ST1, .st1), (Micro.ST2, .st2), (Micro.ST3, .st3),
   (Micro.ST4, .st4), (Micro.ST5, .st5), (Micro.ST6, .st6), (Micro.BD, .bd),
   (Micro.WR0, .wr0), (Micro.WR1, .wr1), (Micro.WR2, .wr2), (Micro.WR3, .wr3),
   (Micro.WR4, .wr4), (Micro.WR5, .wr5), (Micro.WR6, .wr6), (Micro.NK0, .nk0),
   (Micro.NK1, .nk1), (Micro.NK2, .nk2), (Micro.RD0, .rd0), (Micro.RD1, .rd1),
   (Micro.RD2, .rd2), (Micro.RD3, .rd3), (Micro.RD4, .rd4), (Micro.RD5, .rd5),
   (Micro.LP, .lp)]

/-- The rows of the micro-state table (30_encoding R83), SP0 to XF8. -/
def microRowsHigh : List (MicroCode × Instr) :=
  [(Micro.SP0, .sp0), (Micro.SP1, .sp1), (Micro.SP2, .sp2), (Micro.SP3, .sp3),
   (Micro.SP4, .sp4), (Micro.SP5, .sp5), (Micro.SP6, .sp6), (Micro.SP7, .sp7),
   (Micro.XF0, .xf0), (Micro.XF1, .xf1), (Micro.XF2, .xf2), (Micro.XF3, .xf3),
   (Micro.XF4, .xf4), (Micro.XF5, .xf5), (Micro.XF6, .xf6), (Micro.XF7, .xf7),
   (Micro.XF8, .xf8)]

/-- The micro-state table. -/
def microRows : List (MicroCode × Instr) := microRowsLow ++ microRowsHigh

/-- The command table (30_encoding R71). -/
def cmdRows : List (Byte × Instr) :=
  [(Cmd.INIT, .init), (Cmd.TRANSFER, .transfer), (Cmd.WRITE_BYTE, .writeByte)]

/-- The micro-state a STATE code names (30_encoding R83); a reserved code names none (R84). -/
def decodeMicro (c : MicroCode) : Except DecodeError Instr :=
  match microRows.lookup c with
  | some i => .ok i
  | none => .error (.reservedMicroState c)

/-- The command a CMD byte names (30_encoding R71); a reserved value names none (R75). -/
def decodeCmd (b : Byte) : Except DecodeError Instr :=
  match cmdRows.lookup b with
  | some i => .ok i
  | none => .error (.reservedCommand b)

/-- The decoder. -/
def decode (w : Code) : Except DecodeError Instr :=
  match w with
  | .cmd b => decodeCmd b
  | .micro c => decodeMicro c

/-- The encoder, from the tables of 30_encoding R71 and R83. -/
def encode (i : Instr) : Code :=
  match i with
  | .init => .cmd Cmd.INIT
  | .transfer => .cmd Cmd.TRANSFER
  | .writeByte => .cmd Cmd.WRITE_BYTE
  | .idle => .micro Micro.IDLE
  | .in0 => .micro Micro.IN0
  | .tr0 => .micro Micro.TR0
  | .wb0 => .micro Micro.WB0
  | .st0 => .micro Micro.ST0
  | .st1 => .micro Micro.ST1
  | .st2 => .micro Micro.ST2
  | .st3 => .micro Micro.ST3
  | .st4 => .micro Micro.ST4
  | .st5 => .micro Micro.ST5
  | .st6 => .micro Micro.ST6
  | .bd => .micro Micro.BD
  | .wr0 => .micro Micro.WR0
  | .wr1 => .micro Micro.WR1
  | .wr2 => .micro Micro.WR2
  | .wr3 => .micro Micro.WR3
  | .wr4 => .micro Micro.WR4
  | .wr5 => .micro Micro.WR5
  | .wr6 => .micro Micro.WR6
  | .nk0 => .micro Micro.NK0
  | .nk1 => .micro Micro.NK1
  | .nk2 => .micro Micro.NK2
  | .rd0 => .micro Micro.RD0
  | .rd1 => .micro Micro.RD1
  | .rd2 => .micro Micro.RD2
  | .rd3 => .micro Micro.RD3
  | .rd4 => .micro Micro.RD4
  | .rd5 => .micro Micro.RD5
  | .lp => .micro Micro.LP
  | .sp0 => .micro Micro.SP0
  | .sp1 => .micro Micro.SP1
  | .sp2 => .micro Micro.SP2
  | .sp3 => .micro Micro.SP3
  | .sp4 => .micro Micro.SP4
  | .sp5 => .micro Micro.SP5
  | .sp6 => .micro Micro.SP6
  | .sp7 => .micro Micro.SP7
  | .xf0 => .micro Micro.XF0
  | .xf1 => .micro Micro.XF1
  | .xf2 => .micro Micro.XF2
  | .xf3 => .micro Micro.XF3
  | .xf4 => .micro Micro.XF4
  | .xf5 => .micro Micro.XF5
  | .xf6 => .micro Micro.XF6
  | .xf7 => .micro Micro.XF7
  | .xf8 => .micro Micro.XF8

/-- A table word as the code it stands for: fewer than eight bits are a micro-state code, eight bits a command byte. A row
width of six bits given in whole bytes is eight too, so an eight-bit word that is no command is read as a micro-state code
when it is one (log 16); the machine itself never confuses the two. -/
def codeOfTableWord (nbits w : Nat) : Code :=
  let asMicro : Code := .micro (BitVec.ofNat 6 w)
  if nbits < 8 then asMicro
  else
    match decodeCmd (BitVec.ofNat 8 w) with
    | .ok _ => .cmd (BitVec.ofNat 8 w)
    | .error _ =>
      if w < 2 ^ 6 then
        match decodeMicro (BitVec.ofNat 6 w) with
        | .ok _ => asMicro
        | .error _ => .cmd (BitVec.ofNat 8 w)
      else .cmd (BitVec.ofNat 8 w)

/-- The instruction the decoder reads from a word of the opcode table; none for a reserved code, or for a word that has
bits above its width. -/
def decodeTableWord (nbits w : Nat) : Option Instr :=
  if w < 2 ^ min nbits 8 then (decode (codeOfTableWord nbits w)).toOption else none

end Sys2Proof
end

