-- ==== Sys2Proof/Config.lean ====
section
/-! DEFINITION. Config.lean: what is fixed for one build of the block (00_scope section 5), and the free values.

The widths and the memory size change what a command does, so they are plain data (Params, a field of State that no step
writes; log 3) and every statement over all states holds for all of them. The speed mode, the two durations and the pin
binding are read by no rule's outcome and are opaque constants (log 17). The answers of the bus environment are free
values (log 1). -/

namespace Sys2Proof

/-- The OPEN parameters of 00_scope R10. -/
structure Params where
  /-- `ADDR_BITS`: width of a host memory address. -/
  addrBits : Nat
  /-- `LEN_BITS`: width of the length, remaining-count and index registers. -/
  lenBits : Nat
  /-- `MEM_SIZE`: the number of bytes of host memory. -/
  memSize : Nat
  deriving DecidableEq, Repr

/-- The bounds 00_scope R10 puts on the parameters. -/
def Params.wf (p : Params) : Bool :=
  1 ≤ p.addrBits && 2 ≤ p.lenBits && p.memSize ≤ 2 ^ p.addrBits

/-- The instantiation of 95_test_vectors ("Conventions"), used by `State.reset` only. DESIGN CHOICE (log 3): unsafe for a
claim about `State.reset` alone. -/
def Params.vectors : Params := { addrBits := 8, lenBits := 8, memSize := 256 }

/-- The bus-speed mode `P_SPEED` (00_scope R7). -/
inductive Speed where
  | standard
  | fast
  deriving DecidableEq, Repr, Inhabited

/-- The two logical bus lines (10_state R28, 90_conflicts C1). -/
inductive Line where
  | scl
  | sda
  deriving DecidableEq, Repr

/-- `P_SPEED`, fixed at build time (00_scope R7). -/
opaque Config.speed : Speed
/-- `T_LOW(P_SPEED)`, no value in the source (00_scope R8). -/
opaque Config.tLow : Speed → Nat
/-- `T_HIGH(P_SPEED)`, no value in the source (00_scope R8). -/
opaque Config.tHigh : Speed → Nat
/-- `P_PINS`: the chip pin each line is bound to (00_scope R9). -/
opaque Config.pins : Line → Nat

/-- The environment's answer to `draw EnvSCL()`, free (00_scope R12): the n-th free draw. -/
opaque Config.envScl : Nat → Bool
/-- The environment's answer to `draw EnvSDA()`, free (00_scope R12): the n-th free draw. -/
opaque Config.envSda : Nat → Bool
/-- What a read of the flags SIF, PF and DC gives: any value (10_state R26). -/
opaque Config.usiFlags : Nat → BitVec 3

end Sys2Proof
end

