-- ==== Sys2Proof/Machine/State.lean ====
section
/-! DEFINITION. State.lean: all the state the spec gives the block (10_state R20 to R43, 30_encoding R74, 20_memory R50),
as plain data, with the parameters, the outside world's coming moves and the reset state. -/

namespace Sys2Proof.Machine

/-- Where the block, or the host, reaches for something the spec says does not exist. The block itself never faults
(00_scope R13): no fault is reachable by the master from reset. -/
inductive Fault where
  /-- Raised by a memory access of the block or the host at an address at or above `MEM_SIZE` (20_memory R50, R60; log 7).
  Safe: the machine stops. -/
  | noSuchAddress (addr : Nat)
  /-- Raised by a buffer read of `TMPBUF` at an index other than 0 and 1 (20_memory R52; log 7). Safe: the machine stops. -/
  | noSuchTmpByte (index : Nat)
  /-- Raised by a host access to a port offset above 5 (30_encoding R70; log 12). Safe: the machine stops. -/
  | noSuchPort (offset : Nat)
  deriving DecidableEq, Repr

/-- The refusals of 60_exceptions R233: requests the source gives no meaning. Each ends the run at that step, and a
refused step has no effect (60_exceptions R232; log 8). Safe: nothing is claimed of what the hardware does then. -/
inductive Refusal where
  /-- Raised by an arm of exec whose instruction has no meaning yet. Safe: the machine stops. -/
  | notModelled (mnemonic : String)
  /-- Code 1. Raised by a host port write while `BUSY` = 1 or a `CMD` write is pending (30_encoding R76). Safe. -/
  | hostBusy
  /-- Code 2. Raised by IDLE when the pending `CMD` value is reserved (30_encoding R75, 41_initializer R130). Safe. -/
  | illegalCmd
  /-- Code 3. Raised by TRANSFER and WRITE_BYTE with `INIT_DONE` = 0 (41_initializer R138). Safe. -/
  | notInit
  /-- Code 4. Raised by INIT with `INIT_DONE` = 1 (41_initializer R131). Safe. -/
  | reInit
  /-- Code 5. Raised by TRANSFER with `ARG_LEN` = 0 (43_transfer_fsm R160). Safe. -/
  | lenZero
  /-- Code 6. Raised by WRITE_BYTE with `ARG_ADDR` above 0x7F (44_write_byte R220). Safe. -/
  | addrRange
  /-- Code 7. Raised by TRANSFER with `ARG_BUF + ARG_LEN > MEM_SIZE` (20_memory R60). Safe. -/
  | bufRange
  /-- Code 8. Raised by a host write to `STATUS` (30_encoding R75). Safe. -/
  | readOnly
  /-- Code 9. Raised by a host write of a value too wide for the register (60_exceptions R234; log 11). Safe. -/
  | operandRange
  /-- Code 10. Raised by a reserved `STATE` code, by BD with `PHASE` = 3 and by RD2 with `BUFSEL` = 1
  (30_encoding R82, R84, 20_memory R53). Safe, and unreachable from reset. -/
  | internalError
  deriving DecidableEq, Repr

/-- The reason codes of 60_exceptions R233, for the model's record only; 0 for the model's own refusal. -/
def Refusal.code : Refusal → Nat
  | .notModelled _ => 0
  | .hostBusy => 1
  | .illegalCmd => 2
  | .notInit => 3
  | .reInit => 4
  | .lenZero => 5
  | .addrRange => 6
  | .bufRange => 7
  | .readOnly => 8
  | .operandRange => 9
  | .internalError => 10

/-- The protocol events of `BUSLOG` (30_encoding R91). -/
inductive BusEvent where
  | start
  /-- Byte sent, and the slave's bit after it (false = ACK). -/
  | tx (byte : Byte) (nack : Bool)
  /-- Byte received, and the bit the master sends after it (false = ACK). -/
  | rx (byte : Byte) (nack : Bool)
  | stop
  | abort
  deriving DecidableEq, Repr

/-- The line events of `TRACE` (30_encoding R92). -/
inductive LineEvent where
  /-- The master releases (true) or pulls SCL and SDA after this step. -/
  | out (scl sda : Bool)
  /-- A wait read SCL high. -/
  | sclHigh
  /-- XF3 sampled this SDA level. -/
  | sample (b : Bool)
  deriving DecidableEq, Repr

/-- What comes from outside the block between two steps (60_exceptions R251, 70_reset_and_hazards R260). -/
inductive Event where
  /-- The host writes a value to a port offset (30_encoding R70). -/
  | writePort (offset value : Nat)
  /-- The host reads a port offset. -/
  | readPort (offset : Nat)
  /-- The host writes a byte of its memory (70_reset_and_hazards R264). -/
  | writeMem (addr : Nat) (value : Byte)
  /-- The host reads a byte of its memory. -/
  | readMem (addr : Nat)
  /-- The host polls `STATUS` until bit 0 reads 0 (30_encoding R87). -/
  | wait
  /-- External reset (70_reset_and_hazards R260). -/
  | reset
  deriving DecidableEq, Repr

/-- An event and how many master steps come before it (log 2). -/
structure Arrival where
  delay : Nat
  event : Event
  deriving DecidableEq, Repr

/-- What a read by the host returned (log 2). -/
inductive HostRead where
  | port (offset value : Nat)
  | memory (addr : Nat) (value : Byte)
  deriving DecidableEq, Repr

/-- Host memory: addresses strictly rising, no entry equal to what an unlisted address reads as. -/
abbrev Memory := List Host.Cell

/-- The state of the block and, last, what the model adds. -/
structure State where
  /-- The parameters of this build; no step writes them (log 3). -/
  params : Params
  /-- `STATE`, the FSM state register, this block's program counter (10_state R20). -/
  fsm : MicroCode
  /-- `XCONT`, where XFER returns to (10_state R21). -/
  xcont : MicroCode
  /-- `DR`, the shift register's data register (10_state R22). -/
  dr : Byte
  /-- `SR.CNT`, the clock-edge counter (10_state R24). -/
  cnt : BitVec 4
  /-- `SR.OIF`, the overflow/done flag (10_state R25). -/
  oif : Bool
  /-- `SR.SIF` (10_state R26). -/
  sif : Bool
  /-- `SR.PF` (10_state R26). -/
  pf : Bool
  /-- `SR.DC` (10_state R26). -/
  dc : Bool
  /-- `CR`, the control register (10_state R27). -/
  cr : Byte
  /-- `PORT_SCL` (10_state R28). -/
  portScl : Bool
  /-- `DDR_SCL` (10_state R28). -/
  ddrScl : Bool
  /-- `PORT_SDA` (10_state R28). -/
  portSda : Bool
  /-- `DDR_SDA` (10_state R28). -/
  ddrSda : Bool
  /-- `PHASE`: 0 ADDRESS, 1 WRITE, 2 READ (10_state R30, 30_encoding R82). -/
  phase : BitVec 2
  /-- `ARG_BUF`, below 2^ADDR_BITS (10_state R31). -/
  argBuf : Nat
  /-- `ARG_LEN`, below 2^LEN_BITS (10_state R31). -/
  argLen : Nat
  /-- `ARG_ADDR` (10_state R31). -/
  argAddr : Byte
  /-- `ARG_DATA` (10_state R31). -/
  argData : Byte
  /-- `BUFSEL`: false = host memory, true = TMPBUF (10_state R32). -/
  bufsel : Bool
  /-- `REM`, the remaining-length counter, below 2^LEN_BITS (10_state R33). -/
  rem : Nat
  /-- `IDX`, the index of the current buffer byte, below 2^LEN_BITS (10_state R34). -/
  idx : Nat
  /-- `XN`, the number of bits XFER clocks (10_state R35). -/
  xn : BitVec 4
  /-- `XRET`, what XFER returns (10_state R36). -/
  xret : Byte
  /-- `SBIT`, the sampled SDA level (10_state R37). -/
  sbit : Bool
  /-- `TMPBUF[0]` (10_state R38). -/
  tmp0 : Byte
  /-- `TMPBUF[1]` (10_state R38). -/
  tmp1 : Byte
  /-- `RESULT` (10_state R39). -/
  result : Bool
  /-- `BUSY` (10_state R40). -/
  busy : Bool
  /-- `INIT_DONE` (10_state R41). -/
  initDone : Bool
  /-- The `CMD` write that IDLE has not consumed yet (30_encoding R74, R76). -/
  cmd : Option Byte
  /-- Host memory (20_memory R50). -/
  mem : Memory
  /-- `BUSLOG`, oldest first (10_state R42). -/
  buslog : List BusEvent
  /-- `TRACE`, oldest first (10_state R42). -/
  trace : List LineEvent
  /-- `REFUSED` (10_state R43; log 8). -/
  refused : Option Refusal
  /-- The environment's coming answers to SCL reads, next first (log 1). -/
  envScl : List Bool
  /-- The environment's coming answers to SDA reads, next first (log 1). -/
  envSda : List Bool
  /-- How many free values have been drawn (log 1). -/
  draws : Nat
  /-- The coming events from outside, next first (log 2). -/
  arrivals : List Arrival
  /-- What the host's reads returned, oldest first (log 2). -/
  hostReads : List HostRead
  deriving DecidableEq, Repr

/-- What a step ends in. -/
abbrev Result := Host.Outcome State Fault Refusal

/-- The state right after the first reset of a block built with parameters `p` (10_state R45, 70_reset_and_hazards R261).
The spec gives no value for `XCONT`, `PHASE`, `REM`, `IDX`, `XN`, `XRET`, `SBIT` and `TMPBUF`: DESIGN CHOICE zero (log 5),
unsafe; nor for `DR`: PRESUMED 0x00, the AVR's (log 4), unsafe. -/
def State.resetWith (p : Params) : State where
  params := p
  fsm := 0
  xcont := 0
  dr := 0
  cnt := 0
  oif := false
  sif := false
  pf := false
  dc := false
  cr := 0
  portScl := false
  ddrScl := false
  portSda := false
  ddrSda := false
  phase := 0
  argBuf := 0
  argLen := 0
  argAddr := 0
  argData := 0
  bufsel := false
  rem := 0
  idx := 0
  xn := 0
  xret := 0
  sbit := false
  tmp0 := 0
  tmp1 := 0
  result := false
  busy := false
  initDone := false
  cmd := none
  mem := []
  buslog := []
  trace := []
  refused := none
  envScl := []
  envSda := []
  draws := 0
  arrivals := []
  hostReads := []

/-- The state right after reset, with the parameters of 95_test_vectors (log 3). -/
def State.reset : State := State.resetWith Params.vectors

end Sys2Proof.Machine
end

