-- ==== Sys2Proof/Machine/Ops.lean ====
section
/-! DEFINITION. Ops.lean: the shared operations: host memory, the line primitives of 40_line_primitives, the records, the
end of a master step, and refusing. The block takes no exception (60_exceptions R239, R240): a refusal is the only way a
step ends otherwise, and a NACK is a branch. -/

namespace Sys2Proof.Machine

/-! ### Host memory (20_memory R50, R57, R58) -/

/-- What a byte nothing has written reads as. DESIGN CHOICE (log 6), unsafe. -/
def unlistedByte : Byte := 0

/-- The byte at an address. -/
def memGet (m : Memory) (a : Nat) : Byte :=
  match m with
  | [] => unlistedByte
  | (k, v) :: rest => if k = a then v else memGet rest a

/-- Put a byte in front, unless it is what an unlisted address reads as. -/
def memCons (a : Nat) (v : Byte) (m : Memory) : Memory :=
  if v = unlistedByte then m else (a, v) :: m

/-- The memory with one byte replaced, in canonical form. -/
def memPut (m : Memory) (a : Nat) (v : Byte) : Memory :=
  match m with
  | [] => memCons a v []
  | (k, w) :: rest =>
    if a < k then memCons a v ((k, w) :: rest)
    else if a = k then memCons a v rest
    else (k, w) :: memPut rest a v

/-- Every address listed lies above `low` or, where `low` is none, anywhere. -/
def memAbove (low : Option Nat) (m : Memory) : Bool :=
  match m with
  | [] => true
  | (k, v) :: rest =>
    (match low with
      | none => true
      | some l => decide (l < k)) && (v != unlistedByte) && memAbove (some k) rest

/-- The canonical form: addresses strictly rising and no entry equal to what an unlisted address reads as. -/
def Memory.wf (m : Memory) : Bool := memAbove none m

/-- `MemRead(addr, 1)` (00_scope R12): no side effect; an address at or above `MEM_SIZE` does not exist (log 7). -/
def memRead (s : State) (a : Nat) : Except Fault Byte :=
  if a < s.params.memSize then .ok (memGet s.mem a) else .error (.noSuchAddress a)

/-- `MemWrite(addr, 1, v)` (00_scope R12). -/
def memWrite (s : State) (a : Nat) (v : Byte) : Except Fault State :=
  if a < s.params.memSize then .ok { s with mem := memPut s.mem a v } else .error (.noSuchAddress a)

/-! ### What the master puts on the lines (40_line_primitives R101) -/

/-- `scl_pull()`. -/
def sclPull (s : State) : Bool := s.ddrScl && !s.portScl

/-- `sda_pull()`: the output latch and `DR[7]` are combined by AND. -/
def sdaPull (s : State) : Bool := s.ddrSda && (!s.portSda || !s.dr.getLsbD 7)

/-- The pair of releases TRACE watches (40_line_primitives R117). -/
def releases (s : State) : Bool × Bool := (!sclPull s, !sdaPull s)

/-- `scl_level(e)`, the wired-AND with the environment's answer (40_line_primitives R102). -/
def sclLevel (s : State) (e : Bool) : Bool := !sclPull s && e

/-- `sda_level(e)`. -/
def sdaLevel (s : State) (e : Bool) : Bool := !sdaPull s && e

/-! ### Draws (00_scope R12; log 1) -/

/-- The answer `draw EnvSCL()` gives next: the environment's list, then a free value. -/
def nextScl (s : State) : Bool := s.envScl.headD (Config.envScl s.draws)

/-- The answer `draw EnvSDA()` gives next. -/
def nextSda (s : State) : Bool := s.envSda.headD (Config.envSda s.draws)

/-- Consume the answer of `draw EnvSCL()`. -/
def takeScl (s : State) : State :=
  { s with envScl := s.envScl.tail, draws := if s.envScl.isEmpty then s.draws + 1 else s.draws }

/-- Consume the answer of `draw EnvSDA()`. -/
def takeSda (s : State) : State :=
  { s with envSda := s.envSda.tail, draws := if s.envSda.isEmpty then s.draws + 1 else s.draws }

/-! ### Latches and line primitives (40_line_primitives R103 to R107) -/

/-- Write the output level latch of a line. -/
def setPort (l : Line) (b : Bool) (s : State) : State :=
  match l with
  | .scl => { s with portScl := b }
  | .sda => { s with portSda := b }

/-- Write the direction latch of a line; true = output. -/
def setDdr (l : Line) (b : Bool) (s : State) : State :=
  match l with
  | .scl => { s with ddrScl := b }
  | .sda => { s with ddrSda := b }

/-- DRIVE_HIGH(L) (R103). -/
def driveHigh (l : Line) (s : State) : State := setPort l true (setDdr l true s)

/-- DRIVE_LOW(L) (R104). -/
def driveLow (l : Line) (s : State) : State := setPort l false (setDdr l true s)

/-- RELEASE_HIGH(L) (R105): the direction latch is unchanged. -/
def releaseHigh (l : Line) (s : State) : State := setPort l true s

/-- SET_INPUT(L) (R106): the level latch is unchanged. -/
def setInput (l : Line) (s : State) : State := setDdr l false s

/-- SET_OUTPUT(L) (R107): the level latch is unchanged. -/
def setOutput (l : Line) (s : State) : State := setDdr l true s

/-! ### The data register (40_line_primitives R111, R114, R115) and delays (R110) -/

/-- LOAD_DR(v) (R111). -/
def loadDr (v : Byte) (s : State) : State := { s with dr := v }

/-- `((DR << 1) | s)[7:0]` (R114): bit 7 is lost, the bit enters at bit 0. -/
def shiftByte (d : Byte) (b : Bool) : Byte := (d <<< 1) ||| (BitVec.ofBool b).setWidth 8

/-- SHIFT(s) (R114). -/
def shift (b : Bool) (s : State) : State := { s with dr := shiftByte s.dr b }

/-- READ_DR (R115): no side effect. -/
def readDr (s : State) : Byte := s.dr

/-- `wait_time(T)` (00_scope R12): a delay changes no state, whatever its duration (40_line_primitives R110). -/
def waitTime (_duration : Nat) (s : State) : State := s

/-- DELAY(T_LOW) (R110). -/
def delayLow (s : State) : State := waitTime (Config.tLow Config.speed) s

/-- DELAY(T_HIGH) (R110). -/
def delayHigh (s : State) : State := waitTime (Config.tHigh Config.speed) s

/-! ### Records (10_state R42) -/

/-- `log E`: append to BUSLOG. -/
def logBus (e : BusEvent) (s : State) : State := { s with buslog := s.buslog ++ [e] }

/-- `trace E`: append to TRACE. -/
def traceLine (e : LineEvent) (s : State) : State := { s with trace := s.trace ++ [e] }

/-- The `Out` entry a step from `s` to `t` leaves, if the pair of releases changed (40_line_primitives R117). -/
def outEvents (s t : State) : List LineEvent :=
  if releases s = releases t then [] else [.out (!sclPull t) (!sdaPull t)]

/-- Append that entry. -/
def settle (s t : State) : State := { t with trace := t.trace ++ outEvents s t }

/-! ### The end of a master step -/

/-- `state <- K`. -/
def goto (k : MicroCode) (s : State) : State := { s with fsm := k }

/-- A master step from `s` whose writes give `t` and whose successor is `k` (10_state R20, 40_line_primitives R117). -/
def finish (s t : State) (k : MicroCode) : Result := .next (settle s (goto k t))

/-- The end of a step after an access that may fail. -/
def onAccess {α : Type} (r : Except Fault α) (k : α → Result) : Result :=
  match r with
  | .ok v => k v
  | .error f => .fault f

/-- `refuse r` (60_exceptions R232): the step has no effect; the mark is `recordOutcome`'s. -/
def refuse (r : Refusal) : Result := .refused r

/-- What the model's record holds after a step from `s`: the next state; after a refusal `s` with REFUSED set and nothing
else changed (60_exceptions R232, 10_state R43; log 8); after a fault `s`. -/
def recordOutcome (s : State) (r : Result) : State :=
  match r with
  | .next t => t
  | .fault _ => s
  | .refused x => { s with refused := some x }

/-! ### Waits (40_line_primitives R108) -/

/-- WAIT_SCL_HIGH with the micro-state's own code `self`: on a high level record it, do `onHigh` and go to `k`; on a low
level poll again. There is no bound on the polls (60_exceptions R236). -/
def waitSclHigh (s : State) (self k : MicroCode) (onHigh : State → State) : Result :=
  .next (settle s (if sclLevel s (nextScl s) then goto k (onHigh (traceLine .sclHigh (takeScl s)))
    else goto self (takeScl s)))

/-- SAMPLE_SDA into SBIT (R109, 42_bit_byte_transfer R144). -/
def sampleSda (s : State) : State :=
  traceLine (.sample (sdaLevel s (nextSda s))) { takeSda s with sbit := sdaLevel s (nextSda s) }

/-! ### Calling the transfer primitive (42_bit_byte_transfer R140) -/

/-- `XFER(n) then K`: the registers of the call; the caller goes to XF0. -/
def callXfer (n : BitVec 4) (k : MicroCode) (s : State) : State := { s with xn := n, xcont := k }

end Sys2Proof.Machine
end

