-- ==== Sys2Proof/Machine/Flags.lean ====
section
/-! DEFINITION. Flags.lean: the status register SR and its counter (10_state R23 to R26), the control register and the
clock strobe (10_state R27, 40_line_primitives R112, R113), and the host-visible flags (10_state R39 to R41). -/

namespace Sys2Proof.Machine

/-- `SR_8BIT` and `SR_1BIT`, the two presets (30_encoding R80). -/
def SR_8BIT : Byte := 0xF0
def SR_1BIT : Byte := 0xFE

/-- `CR_TWI` and `CR_STROBE` (30_encoding R81). -/
def CR_TWI : Byte := 0x2A
def CR_STROBE : Byte := 0x2B

/-- A write of SR (10_state R23): bits 3:0 load CNT, a one in bit 7, 6 or 5 clears SIF, OIF or PF, bit 4 is ignored. -/
def writeSr (v : Byte) (s : State) : State :=
  { s with
    cnt := v.extractLsb' 0 4
    sif := s.sif && !v.getLsbD 7
    oif := s.oif && !v.getLsbD 6
    pf := s.pf && !v.getLsbD 5 }

/-- A read of all of SR: CNT and OIF as held, SIF, PF and DC any value (10_state R26; log 15). No micro-state does it. -/
def readSr (s : State) : Byte × State :=
  let free := Config.usiFlags s.draws
  ((BitVec.ofBool (free.getLsbD 2) ++ BitVec.ofBool s.oif ++ BitVec.ofBool (free.getLsbD 1) ++ BitVec.ofBool (free.getLsbD 0)
    ++ s.cnt : BitVec 8), { s with draws := s.draws + 1 })

/-- ARM(n) (40_line_primitives R112). -/
def arm (n : BitVec 4) (s : State) : State := writeSr (if n = 8 then SR_8BIT else SR_1BIT) s

/-- TEST_OIF (40_line_primitives R116). -/
def testOif (s : State) : Bool := s.oif

/-- The counter's advance on a strobe: modulo 16, OIF set on the wrap and never cleared (40_line_primitives R113). -/
def countStrobe (s : State) : State :=
  { s with cnt := s.cnt + 1, oif := s.oif || s.cnt == 15 }

/-- A write of CR (10_state R27): TC reads as 0, and a one written to TC is a strobe, which toggles `PORT_SCL` and
advances the counter (40_line_primitives R113). -/
def writeCr (v : Byte) (s : State) : State :=
  let t := { s with cr := v &&& 0xFE }
  if v.getLsbD 0 then countStrobe { t with portScl := !t.portScl } else t

/-- STROBE (40_line_primitives R113): the write of `CR_STROBE`. -/
def strobe (s : State) : State := writeCr CR_STROBE s

/-- `STATUS` (30_encoding R72): bit 0 BUSY, bit 1 RESULT, bit 2 INIT_DONE, the rest 0. -/
def statusByte (s : State) : Byte :=
  (0#5 ++ BitVec.ofBool s.initDone ++ BitVec.ofBool s.result ++ BitVec.ofBool s.busy : BitVec 8)

/-- The acceptance of a command by its decode: the CMD write is consumed and BUSY set (41_initializer R130, 10_state R40). -/
def accept (s : State) : State := { s with cmd := none, busy := true }

/-- The end of a transfer with the given RESULT (43_transfer_fsm R179, R194). -/
def complete (r : Bool) (s : State) : State := { s with result := r, busy := false }

end Sys2Proof.Machine
end

