-- ==== Sys2Proof/Machine/Initializer.lean ====
section
/-! DEFINITION. Initializer.lean: the INIT command and its micro-state (41_initializer section 2). -/

namespace Sys2Proof.Machine

/-- INIT, performed by IDLE in the step that consumes the CMD write (41_initializer R131). -/
def execInit (s : State) : Result :=
  if s.initDone then refuse .reInit else finish s (accept s) Micro.IN0

/-- IN0, the whole initializer in one step (41_initializer R132). -/
def execIn0 (s : State) : Result :=
  let t := writeCr CR_TWI (writeSr SR_8BIT (loadDr 0xFF s))
  let u := driveHigh .sda (driveHigh .scl t)
  finish s { u with initDone := true, busy := false } Micro.IDLE

end Sys2Proof.Machine
end

