-- ==== Sys2Proof/Machine/Operands.lean ====
section
/-! DEFINITION. Operands.lean: where a transfer's bytes come from and go to (20_memory R52, R53), the transfer length,
the address byte (30_encoding R77, R90), the phase codes (30_encoding R82) and LEN_BITS arithmetic (43_transfer_fsm R186). -/

namespace Sys2Proof.Machine

/-- `PHASE` codes (30_encoding R82). -/
@[simp] abbrev Phase.ADDRESS : BitVec 2 := 0
@[simp] abbrev Phase.WRITE : BitVec 2 := 1
@[simp] abbrev Phase.READ : BitVec 2 := 2

/-- The host address of byte i of the transfer buffer: an unbounded sum (20_memory R52, R60). -/
def bufAddr (s : State) (i : Nat) : Nat := s.argBuf + i

/-- `TMPBUF[i]`, i in {0, 1} (10_state R38). -/
def tmpRead (s : State) (i : Nat) : Except Fault Byte :=
  match i with
  | 0 => .ok s.tmp0
  | 1 => .ok s.tmp1
  | n + 2 => .error (.noSuchTmpByte (n + 2))

/-- `BufRead(i)` (20_memory R52). -/
def bufRead (s : State) (i : Nat) : Except Fault Byte :=
  if s.bufsel then tmpRead s i else memRead s (bufAddr s i)

/-- `BufWrite(i, v)` and what follows it (20_memory R53): with BUFSEL = 1 it is refused. -/
def bufWrite (s : State) (i : Nat) (v : Byte) (k : State → Result) : Result :=
  if s.bufsel then refuse .internalError else onAccess (memWrite s (bufAddr s i) v) k

/-- The transfer length L that TR0 loads (43_transfer_fsm R161). -/
def transferLength (s : State) : Nat := if s.bufsel then 2 else s.argLen

/-- The direction of a transfer, bit 0 of its byte 0 (30_encoding R78): even = WRITE, odd = READ. -/
def directionPhase (b0 : Byte) : BitVec 2 := if b0.getLsbD 0 then Phase.READ else Phase.WRITE

/-- `((ARG_ADDR[6:0] << 1) | 0)[7:0]`, WRITE_BYTE's address byte (30_encoding R90). -/
def writeAddressByte (addr : Byte) : Byte := ((addr.extractLsb' 0 7).setWidth 8 <<< 1) ||| 0

/-- `v + 1` in LEN_BITS bits. -/
def lenInc (p : Params) (v : Nat) : Nat := (v + 1) % 2 ^ p.lenBits

/-- `v - 1` in LEN_BITS bits. -/
def lenDec (p : Params) (v : Nat) : Nat := (v + 2 ^ p.lenBits - 1) % 2 ^ p.lenBits

end Sys2Proof.Machine
end

