-- ==== Sys2Proof/Machine/Transfer.lean ====
section
/-! DEFINITION. Transfer.lean: the TRANSFER command and the set-up of a transfer (43_transfer_fsm section 1). -/

namespace Sys2Proof.Machine

/-- TRANSFER, performed by IDLE in the step that consumes the CMD write (43_transfer_fsm R160). -/
def execTransfer (s : State) : Result :=
  if !s.initDone then refuse .notInit
  else if s.argLen = 0 then refuse .lenZero
  else if s.params.memSize < s.argBuf + s.argLen then refuse .bufRange
  else finish s { accept s with bufsel := false } Micro.TR0

/-- TR0: set up the transfer registers (43_transfer_fsm R161). -/
def execTr0 (s : State) : Result :=
  finish s { s with rem := transferLength s, idx := 0, phase := Phase.ADDRESS } Micro.ST0

end Sys2Proof.Machine
end

