-- ==== Sys2Proof/Machine/WriteByte.lean ====
section
/-! DEFINITION. WriteByte.lean: the WRITE_BYTE command and the building of its buffer (44_write_byte). -/

namespace Sys2Proof.Machine

/-- WRITE_BYTE, performed by IDLE in the step that consumes the CMD write (44_write_byte R220). -/
def execWriteByte (s : State) : Result :=
  if !s.initDone then refuse .notInit
  else if 0x7F < s.argAddr.toNat then refuse .addrRange
  else finish s (accept s) Micro.WB0

/-- WB0: build the two-byte buffer (44_write_byte R221). -/
def execWb0 (s : State) : Result :=
  finish s { s with tmp0 := writeAddressByte s.argAddr, tmp1 := s.argData, bufsel := true } Micro.TR0

end Sys2Proof.Machine
end

