-- ==== Sys2Proof/Machine/Idle.lean ====
section
/-! DEFINITION. Idle.lean: the idle micro-state, which decodes host commands (41_initializer section 1). -/

namespace Sys2Proof.Machine

/-- IDLE (41_initializer R130): without a pending CMD write a stutter, else the decode of the command it names. -/
def execIdle (s : State) : Result :=
  match s.cmd with
  | none => finish s s Micro.IDLE
  | some c =>
    if c = Cmd.INIT then execInit s
    else if c = Cmd.TRANSFER then execTransfer s
    else if c = Cmd.WRITE_BYTE then execWriteByte s
    else refuse .illegalCmd

end Sys2Proof.Machine
end

