-- ==== Sys2Proof/Machine/ReadPhase.lean ====
section
/-! DEFINITION. ReadPhase.lean: the read phase and the loop tail (43_transfer_fsm sections 6 and 7). -/

namespace Sys2Proof.Machine

/-- RD0: SDA to input (43_transfer_fsm R180). -/
def execRd0 (s : State) : Result := finish s (setInput .sda s) Micro.RD1

/-- RD1: call XFER(8) (43_transfer_fsm R181). -/
def execRd1 (s : State) : Result := finish s (callXfer 8 Micro.RD2 s) Micro.XF0

/-- RD2: store the byte (43_transfer_fsm R182). -/
def execRd2 (s : State) : Result := bufWrite s s.idx s.xret fun t => finish s t Micro.RD3

/-- RD3: SDA to output (43_transfer_fsm R183). -/
def execRd3 (s : State) : Result := finish s (setOutput .sda s) Micro.RD4

/-- RD4: load DR with NACK 0xFF for the last byte, else with ACK 0x00 (43_transfer_fsm R184). -/
def execRd4 (s : State) : Result :=
  if s.rem = 1 then finish s (logBus (.rx s.xret true) (loadDr 0xFF s)) Micro.RD5
  else finish s (logBus (.rx s.xret false) (loadDr 0x00 s)) Micro.RD5

/-- RD5: call XFER(1) for the master's ACK (43_transfer_fsm R185). -/
def execRd5 (s : State) : Result := finish s (callXfer 1 Micro.LP s) Micro.XF0

/-- LP: count the byte and loop while the new REM is not 0 (43_transfer_fsm R186). -/
def execLp (s : State) : Result :=
  finish s { s with rem := lenDec s.params s.rem, idx := lenInc s.params s.idx }
    (if lenDec s.params s.rem ≠ 0 then Micro.BD else Micro.SP0)

end Sys2Proof.Machine
end

