-- ==== Sys2Proof/Machine/StartCondition.lean ====
section
/-! DEFINITION. StartCondition.lean: ST0 to ST6, the start condition (43_transfer_fsm section 2). -/

namespace Sys2Proof.Machine

/-- ST0: drive SCL high (43_transfer_fsm R162). -/
def execSt0 (s : State) : Result := finish s (driveHigh .scl s) Micro.ST1

/-- ST1: wait for SCL high (43_transfer_fsm R163). -/
def execSt1 (s : State) : Result := waitSclHigh s Micro.ST1 Micro.ST2 id

/-- ST2: delay T_HIGH (43_transfer_fsm R164). -/
def execSt2 (s : State) : Result := finish s (delayHigh s) Micro.ST3

/-- ST3: drive SDA low, the start condition (43_transfer_fsm R165). -/
def execSt3 (s : State) : Result := finish s (logBus .start (driveLow .sda s)) Micro.ST4

/-- ST4: drive SCL low (43_transfer_fsm R166). -/
def execSt4 (s : State) : Result := finish s (driveLow .scl s) Micro.ST5

/-- ST5: delay T_LOW (43_transfer_fsm R167). -/
def execSt5 (s : State) : Result := finish s (delayLow s) Micro.ST6

/-- ST6: release SDA high (43_transfer_fsm R168). -/
def execSt6 (s : State) : Result := finish s (releaseHigh .sda s) Micro.BD

end Sys2Proof.Machine
end

