-- ==== Sys2Proof/Machine/StopCondition.lean ====
section
/-! DEFINITION. StopCondition.lean: SP0 to SP7, the stop condition and the return of success (43_transfer_fsm section 8). -/

namespace Sys2Proof.Machine

/-- SP0: drive SDA low (43_transfer_fsm R187). -/
def execSp0 (s : State) : Result := finish s (driveLow .sda s) Micro.SP1

/-- SP1: delay T_LOW (43_transfer_fsm R188). -/
def execSp1 (s : State) : Result := finish s (delayLow s) Micro.SP2

/-- SP2: SCL to input (43_transfer_fsm R189). -/
def execSp2 (s : State) : Result := finish s (setInput .scl s) Micro.SP3

/-- SP3: wait for SCL high (43_transfer_fsm R190). -/
def execSp3 (s : State) : Result := waitSclHigh s Micro.SP3 Micro.SP4 id

/-- SP4: delay T_HIGH (43_transfer_fsm R191). -/
def execSp4 (s : State) : Result := finish s (delayHigh s) Micro.SP5

/-- SP5: SDA to input, the stop condition (43_transfer_fsm R192). -/
def execSp5 (s : State) : Result := finish s (logBus .stop (setInput .sda s)) Micro.SP6

/-- SP6: wait for SCL high again (43_transfer_fsm R193). -/
def execSp6 (s : State) : Result := waitSclHigh s Micro.SP6 Micro.SP7 id

/-- SP7: return 1 (43_transfer_fsm R194). -/
def execSp7 (s : State) : Result := finish s (complete true s) Micro.IDLE

end Sys2Proof.Machine
end

