-- ==== Sys2Proof/Machine/WritePhase.lean ====
section
/-! DEFINITION. WritePhase.lean: byte dispatch, the write phase and the NACK abort (43_transfer_fsm sections 3 to 5). -/

namespace Sys2Proof.Machine

/-- BD: byte dispatch; the first visit classifies the direction and always goes to the write path (43_transfer_fsm R169). -/
def execBd (s : State) : Result :=
  if s.phase = Phase.ADDRESS then
    onAccess (bufRead s 0) fun b0 => finish s { s with phase := directionPhase b0 } Micro.WR0
  else if s.phase = Phase.WRITE then finish s s Micro.WR0
  else if s.phase = Phase.READ then finish s s Micro.RD0
  else refuse .internalError

/-- WR0: drive SCL low (43_transfer_fsm R170). -/
def execWr0 (s : State) : Result := finish s (driveLow .scl s) Micro.WR1

/-- WR1: load DR with the next byte (43_transfer_fsm R171). -/
def execWr1 (s : State) : Result :=
  onAccess (bufRead s s.idx) fun b => finish s (loadDr b s) Micro.WR2

/-- WR2: call XFER(8) (43_transfer_fsm R172). -/
def execWr2 (s : State) : Result := finish s (callXfer 8 Micro.WR3 s) Micro.XF0

/-- WR3: SDA to input (43_transfer_fsm R173). -/
def execWr3 (s : State) : Result := finish s (setInput .sda s) Micro.WR4

/-- WR4: call XFER(1) for the slave's ACK (43_transfer_fsm R174). -/
def execWr4 (s : State) : Result := finish s (callXfer 1 Micro.WR5 s) Micro.XF0

/-- WR5: test ACK or NACK (43_transfer_fsm R175). -/
def execWr5 (s : State) : Result :=
  onAccess (bufRead s s.idx) fun b =>
    finish s (logBus (.tx b (s.xret.getLsbD 0)) s) (if s.xret.getLsbD 0 then Micro.NK0 else Micro.WR6)

/-- WR6: SDA to output (43_transfer_fsm R176). -/
def execWr6 (s : State) : Result := finish s (setOutput .sda s) Micro.LP

/-- NK0: release SCL high (43_transfer_fsm R177). -/
def execNk0 (s : State) : Result := finish s (releaseHigh .scl s) Micro.NK1

/-- NK1: release SDA high (43_transfer_fsm R178). -/
def execNk1 (s : State) : Result := finish s (releaseHigh .sda s) Micro.NK2

/-- NK2: return 0 (43_transfer_fsm R179). -/
def execNk2 (s : State) : Result := finish s (logBus .abort (complete false s)) Micro.IDLE

end Sys2Proof.Machine
end

