-- ==== Sys2Proof/Machine/XferPrimitive.lean ====
section
/-! DEFINITION. XferPrimitive.lean: XF0 to XF8, the bit/byte transfer primitive (42_bit_byte_transfer section 2). -/

namespace Sys2Proof.Machine

/-- XF0: arm the counter (42_bit_byte_transfer R141). -/
def execXf0 (s : State) : Result := finish s (arm s.xn s) Micro.XF1

/-- XF1: delay T_LOW (42_bit_byte_transfer R142). -/
def execXf1 (s : State) : Result := finish s (delayLow s) Micro.XF2

/-- XF2: strobe, the rising edge (42_bit_byte_transfer R143). -/
def execXf2 (s : State) : Result := finish s (strobe s) Micro.XF3

/-- XF3: wait for SCL high and sample SDA in the same step (42_bit_byte_transfer R144). -/
def execXf3 (s : State) : Result := waitSclHigh s Micro.XF3 Micro.XF4 sampleSda

/-- XF4: delay T_HIGH (42_bit_byte_transfer R145). -/
def execXf4 (s : State) : Result := finish s (delayHigh s) Micro.XF5

/-- XF5: strobe, the falling edge, and the shift, together (42_bit_byte_transfer R146). -/
def execXf5 (s : State) : Result := finish s (shift s.sbit (strobe s)) Micro.XF6

/-- XF6: test the done flag (42_bit_byte_transfer R147). -/
def execXf6 (s : State) : Result := finish s s (if testOif s then Micro.XF7 else Micro.XF1)

/-- XF7: delay T_LOW (42_bit_byte_transfer R148). -/
def execXf7 (s : State) : Result := finish s (delayLow s) Micro.XF8

/-- XF8: return DR (42_bit_byte_transfer R149). -/
def execXf8 (s : State) : Result := finish s { s with xret := readDr s } s.xcont

end Sys2Proof.Machine
end

