-- ==== Sys2Proof/Machine/Dispatch.lean ====
section
/-! DEFINITION. Dispatch.lean: one arm per constructor of Instr, each one call of its meaning. -/

namespace Sys2Proof.Machine

def exec (i : Instr) (s : State) : Host.Outcome State Fault Refusal :=
  match i with
  | .init => Sys2Proof.Machine.execInit s
  | .transfer => Sys2Proof.Machine.execTransfer s
  | .writeByte => Sys2Proof.Machine.execWriteByte s
  | .idle => Sys2Proof.Machine.execIdle s
  | .in0 => Sys2Proof.Machine.execIn0 s
  | .tr0 => Sys2Proof.Machine.execTr0 s
  | .wb0 => Sys2Proof.Machine.execWb0 s
  | .st0 => Sys2Proof.Machine.execSt0 s
  | .st1 => Sys2Proof.Machine.execSt1 s
  | .st2 => Sys2Proof.Machine.execSt2 s
  | .st3 => Sys2Proof.Machine.execSt3 s
  | .st4 => Sys2Proof.Machine.execSt4 s
  | .st5 => Sys2Proof.Machine.execSt5 s
  | .st6 => Sys2Proof.Machine.execSt6 s
  | .bd => Sys2Proof.Machine.execBd s
  | .wr0 => Sys2Proof.Machine.execWr0 s
  | .wr1 => Sys2Proof.Machine.execWr1 s
  | .wr2 => Sys2Proof.Machine.execWr2 s
  | .wr3 => Sys2Proof.Machine.execWr3 s
  | .wr4 => Sys2Proof.Machine.execWr4 s
  | .wr5 => Sys2Proof.Machine.execWr5 s
  | .wr6 => Sys2Proof.Machine.execWr6 s
  | .nk0 => Sys2Proof.Machine.execNk0 s
  | .nk1 => Sys2Proof.Machine.execNk1 s
  | .nk2 => Sys2Proof.Machine.execNk2 s
  | .rd0 => Sys2Proof.Machine.execRd0 s
  | .rd1 => Sys2Proof.Machine.execRd1 s
  | .rd2 => Sys2Proof.Machine.execRd2 s
  | .rd3 => Sys2Proof.Machine.execRd3 s
  | .rd4 => Sys2Proof.Machine.execRd4 s
  | .rd5 => Sys2Proof.Machine.execRd5 s
  | .lp => Sys2Proof.Machine.execLp s
  | .sp0 => Sys2Proof.Machine.execSp0 s
  | .sp1 => Sys2Proof.Machine.execSp1 s
  | .sp2 => Sys2Proof.Machine.execSp2 s
  | .sp3 => Sys2Proof.Machine.execSp3 s
  | .sp4 => Sys2Proof.Machine.execSp4 s
  | .sp5 => Sys2Proof.Machine.execSp5 s
  | .sp6 => Sys2Proof.Machine.execSp6 s
  | .sp7 => Sys2Proof.Machine.execSp7 s
  | .xf0 => Sys2Proof.Machine.execXf0 s
  | .xf1 => Sys2Proof.Machine.execXf1 s
  | .xf2 => Sys2Proof.Machine.execXf2 s
  | .xf3 => Sys2Proof.Machine.execXf3 s
  | .xf4 => Sys2Proof.Machine.execXf4 s
  | .xf5 => Sys2Proof.Machine.execXf5 s
  | .xf6 => Sys2Proof.Machine.execXf6 s
  | .xf7 => Sys2Proof.Machine.execXf7 s
  | .xf8 => Sys2Proof.Machine.execXf8 s

end Sys2Proof.Machine
end

