-- ==== Sys2Proof/WellFormed.lean ====
section
/-! DEFINITION. WellFormed.lean: which terms the source gives a meaning. An Instr has no operand, so each is well formed;
the operands stand in the lines of the command syntax (30_encoding R87, R89), checked here against 30_encoding R73,
60_exceptions R234 and 20_memory R60. -/

namespace Sys2Proof

/-- A row of the opcode table has no operand field, so nothing can be ill formed (30_encoding R86). -/
def Instr.wf (i : Instr) : Bool :=
  match i with
  | .init | .transfer | .writeByte => true
  | .idle | .in0 | .tr0 | .wb0 => true
  | .st0 | .st1 | .st2 | .st3 | .st4 | .st5 | .st6 => true
  | .bd | .wr0 | .wr1 | .wr2 | .wr3 | .wr4 | .wr5 | .wr6 => true
  | .nk0 | .nk1 | .nk2 => true
  | .rd0 | .rd1 | .rd2 | .rd3 | .rd4 | .rd5 => true
  | .lp => true
  | .sp0 | .sp1 | .sp2 | .sp3 | .sp4 | .sp5 | .sp6 | .sp7 => true
  | .xf0 | .xf1 | .xf2 | .xf3 | .xf4 | .xf5 | .xf6 | .xf7 | .xf8 => true

/-- A line of the command syntax (30_encoding R87), and the pseudo-command PROBE (30_encoding R89). -/
inductive Command where
  | init
  | transfer (buf len : Nat)
  | writeByte (addr data : Nat)
  | wait
  | probe (buf : Nat)
  deriving DecidableEq, Repr

/-- `ARG_BUF` holds the value (60_exceptions R234). -/
def Params.fitsAddr (p : Params) (v : Nat) : Bool := v < 2 ^ p.addrBits
/-- `ARG_LEN` holds the value (60_exceptions R234). -/
def Params.fitsLen (p : Params) (v : Nat) : Bool := v < 2 ^ p.lenBits
/-- A byte-wide port register holds the value (60_exceptions R234). -/
def fitsByte (v : Nat) : Bool := v < 2 ^ 8
/-- The buffer lies in host memory, an unbounded sum (20_memory R60). -/
def Params.bufFits (p : Params) (buf len : Nat) : Bool := buf + len ≤ p.memSize

/-- The line keeps the source's contract: operands fit their registers, the length is positive, the slave address is at
most 0x7F and the buffer lies in host memory (30_encoding R73). -/
def Command.wf (p : Params) (c : Command) : Bool :=
  match c with
  | .init => true
  | .wait => true
  | .transfer buf len => p.fitsAddr buf && p.fitsLen len && 1 ≤ len && p.bufFits buf len
  | .writeByte addr data => addr ≤ 0x7F && fitsByte data
  | .probe buf => p.fitsAddr buf && p.bufFits buf 1

end Sys2Proof
end

