-- ==== Sys2Proof/Machine/HostPort.lean ====
section
/-! DEFINITION. HostPort.lean: what the host and the reset input do between two master steps: port accesses (30_encoding
R70 to R76, 60_exceptions R234, R235), the host's own memory accesses (20_memory R64), polling (30_encoding R87), reset
(70_reset_and_hazards R260), and the command syntax as events (30_encoding R87, R89). -/

namespace Sys2Proof.Machine

/-- A host write to the port is refused while a command runs or is pending (30_encoding R76). -/
def portLocked (s : State) : Bool := s.busy || s.cmd.isSome

/-- A value that fits is stored unchanged; one too wide is refused (60_exceptions R234; for CMD log 11). -/
def storeIfFits (fits : Bool) (t : State) : Result :=
  if fits then .next t else refuse .operandRange

/-- A host write to the port. The refusals come in the order of 60_exceptions R235. -/
def hostWrite (s : State) (offset value : Nat) : Result :=
  match offset with
  | 0 => if portLocked s then refuse .hostBusy
    else storeIfFits (fitsByte value) { s with cmd := some (BitVec.ofNat 8 value) }
  | 1 => if portLocked s then refuse .hostBusy else refuse .readOnly
  | 2 => if portLocked s then refuse .hostBusy
    else storeIfFits (fitsByte value) { s with argAddr := BitVec.ofNat 8 value }
  | 3 => if portLocked s then refuse .hostBusy
    else storeIfFits (fitsByte value) { s with argData := BitVec.ofNat 8 value }
  | 4 => if portLocked s then refuse .hostBusy
    else storeIfFits (s.params.fitsAddr value) { s with argBuf := value }
  | 5 => if portLocked s then refuse .hostBusy
    else storeIfFits (s.params.fitsLen value) { s with argLen := value }
  | n + 6 => .fault (.noSuchPort (n + 6))

/-- What a port register reads as (30_encoding R70, R72, R75): CMD reads 0x00. Operand registers read as held, also while
a command runs (log 10). -/
def portValue (s : State) (offset : Nat) : Option Nat :=
  match offset with
  | 0 => some 0
  | 1 => some (statusByte s).toNat
  | 2 => some s.argAddr.toNat
  | 3 => some s.argData.toNat
  | 4 => some s.argBuf
  | 5 => some s.argLen
  | _ + 6 => none

/-- Note what a read by the host returned (log 2). -/
def noteRead (r : HostRead) (s : State) : State := { s with hostReads := s.hostReads ++ [r] }

/-- A host read of the port has no side effect (30_encoding R72, R75). -/
def hostRead (s : State) (offset : Nat) : Result :=
  match portValue s offset with
  | some v => .next (noteRead (.port offset v) s)
  | none => .fault (.noSuchPort offset)

/-- The bytes the host may not touch: the buffer, from the TRANSFER write until BUSY reads 0 (20_memory R64,
70_reset_and_hazards R266). -/
def ownedByBlock (s : State) (a : Nat) : Bool :=
  (s.busy || s.cmd == some Cmd.TRANSFER) && (s.argBuf ≤ a && a < s.argBuf + s.argLen)

/-- Reset (70_reset_and_hazards R260): every register at its reset value; the records, REFUSED and host memory stay
(10_state R42, R43), the pending CMD write goes (log 9), the parameters and the outside world are not the block's. -/
def resetRegisters (s : State) : State :=
  { State.resetWith s.params with
    mem := s.mem
    buslog := s.buslog
    trace := s.trace
    refused := s.refused
    envScl := s.envScl
    envSda := s.envSda
    draws := s.draws
    arrivals := s.arrivals
    hostReads := s.hostReads }

/-- The reset event: TRACE gains `Out(1, 1)` if the pair of releases changes (70_reset_and_hazards R260). -/
def resetEvent (s : State) : State := settle s (resetRegisters s)

/-- The event can happen now: a poll waits for BUSY = 0 (30_encoding R87; log 13), and the host has no access to a byte
the block owns (20_memory R64; log 14). -/
def enabled (s : State) (e : Event) : Bool :=
  match e with
  | .wait => !s.busy
  | .writeMem a _ => !ownedByBlock s a
  | .readMem a => !ownedByBlock s a
  | .writePort _ _ => true
  | .readPort _ => true
  | .reset => true

/-- What an event does. -/
def perform (s : State) (e : Event) : Result :=
  match e with
  | .writePort offset value => hostWrite s offset value
  | .readPort offset => hostRead s offset
  | .writeMem a v => onAccess (memWrite s a v) fun t => .next t
  | .readMem a => onAccess (memRead s a) fun v => .next (noteRead (.memory a v) s)
  | .wait => hostRead s 1
  | .reset => .next (resetEvent s)

/-- The events of one line of the command syntax (30_encoding R87, R89). WAIT lets the master take the decode step before
the first poll (log 13). -/
def commandEvents (c : Command) : List Arrival :=
  match c with
  | .init => [⟨0, .writePort 0 0x01⟩]
  | .transfer buf len => [⟨0, .writePort 4 buf⟩, ⟨0, .writePort 5 len⟩, ⟨0, .writePort 0 0x02⟩]
  | .writeByte addr data => [⟨0, .writePort 2 addr⟩, ⟨0, .writePort 3 data⟩, ⟨0, .writePort 0 0x03⟩]
  | .wait => [⟨1, .wait⟩]
  | .probe buf => [⟨0, .writePort 4 buf⟩, ⟨0, .writePort 5 1⟩, ⟨0, .writePort 0 0x02⟩]

end Sys2Proof.Machine
end

