-- ==== Sys2Proof/Machine/Fetch.lean ====
section
/-! DEFINITION. Fetch.lean: which instruction the master performs next, which event from outside comes before it, and how
a table word is placed where the next step takes its instruction. There is no fetch from memory: the micro-state table is
fixed hardware (20_memory R67). -/

namespace Sys2Proof.Machine

/-- The instruction of the next master step: in IDLE with a pending CMD write the command it names (41_initializer R130),
else the micro-state STATE names (10_state R20). A reserved CMD value is refused IllegalCmd (30_encoding R75), a reserved
STATE code InternalError (30_encoding R84). -/
def fetch (s : State) : Except Refusal Instr :=
  if s.fsm = Micro.IDLE then
    match s.cmd with
    | none => .ok .idle
    | some c =>
      match decodeCmd c with
      | .ok i => .ok i
      | .error _ => .error .illegalCmd
  else
    match decodeMicro s.fsm with
    | .ok i => .ok i
    | .error _ => .error .internalError

/-- The event that happens in the next step, with the state that has it taken off: the first of `arrivals`, when no
master step is to come before it and it is enabled (60_exceptions R251; log 2). -/
def dueEvent (s : State) : Option (Event × State) :=
  match s.arrivals with
  | [] => none
  | a :: rest =>
    if a.delay = 0 && enabled s a.event then some (a.event, { s with arrivals := rest }) else none

/-- One master step goes by: the first of `arrivals` is one step nearer. -/
def tick (s : State) : State :=
  match s.arrivals with
  | [] => s
  | a :: rest => { s with arrivals := { a with delay := a.delay - 1 } :: rest }

/-- Place a code where the next step takes its instruction: a micro-state in STATE, a command as the pending CMD write of
an IDLE block. Events from outside are put off, and IDLE itself is what runs only if no CMD write is pending. -/
def placeCode (w : Code) (s : State) : State :=
  match w with
  | .micro c =>
    if c = Micro.IDLE then { s with fsm := c, cmd := none, arrivals := [] } else { s with fsm := c, arrivals := [] }
  | .cmd b => { s with fsm := Micro.IDLE, cmd := some b, arrivals := [] }

end Sys2Proof.Machine
end

