-- ==== Sys2Proof/Machine/Step.lean ====
section
/-! DEFINITION. Step.lean: one step: an event from outside, or one master step (60_exceptions R251). -/

namespace Sys2Proof.Machine

/-- One master step: the fetched instruction is performed, or the reserved code is refused. -/
def masterStep (s : State) : Result :=
  match fetch s with
  | .ok i => exec i s
  | .error r => refuse r

/-- One step of the model (60_exceptions R251). -/
def step (s : State) : Host.Outcome State Fault Refusal :=
  match dueEvent s with
  | some (e, t) => perform t e
  | none => masterStep (tick s)

/-- A word of the opcode table placed so that the very next step runs its instruction (log 16). -/
def State.withFetchWord (s : State) (nbits w : Nat) : State := placeCode (codeOfTableWord nbits w) s

end Sys2Proof.Machine
end

