-- ==== Sys2Proof/Safety.lean ====
section
/-! DEFINITION. Safety.lean: what a safe state and a safe run are, in the terms the statements use: the invariant of
10_state R49 made inductive, the grammar of BUSLOG (43_transfer_fsm R204), and the words in which results are stated. -/

namespace Sys2Proof.Safety

open Sys2Proof.Machine

/-! ### How a master step's result is stated -/

/-- The answer `r` of a master step from `s` is a next state: `t`, with `Out` appended to TRACE if the master's pair of
releases is no longer that of `s` (40_line_primitives R117). -/
def StepsTo (s : State) (r : Result) (t : State) : Prop :=
  r = .next { t with
    trace := t.trace ++
      (if sclPull s = sclPull t ∧ sdaPull s = sdaPull t then [] else [.out (!sclPull t) (!sdaPull t)]) }

/-- The state after one answer of `draw EnvSCL()` is consumed. -/
def afterSclDraw (s : State) : State :=
  match s.envScl with
  | [] => { s with draws := s.draws + 1 }
  | _ :: rest => { s with envScl := rest }

/-- The state after one answer of `draw EnvSDA()` is consumed. -/
def afterSdaDraw (s : State) : State :=
  match s.envSda with
  | [] => { s with draws := s.draws + 1 }
  | _ :: rest => { s with envSda := rest }

/-- A step ends in a next state. -/
def completes (r : Result) : Bool :=
  match r with
  | .next _ => true
  | .fault _ => false
  | .refused _ => false

/-- `n` steps of the machine behind the host's interface. -/
def runs (n : Nat) (s : State) : Result := Host.Core.run Sys2Proof.core n s

/-! ### Where a run is -/

/-- The micro-states of the transfer primitive XFER. -/
def inXfer (c : MicroCode) : Bool := 0x30 ≤ c.toNat && c.toNat ≤ 0x38

/-- The micro-state, with XFER seen as part of the continuation it returns to (42_bit_byte_transfer R140). -/
def site (s : State) : MicroCode := if inXfer s.fsm then s.xcont else s.fsm

/-- A transfer is under way: TR0 and every micro-state after it. -/
def transferring (c : MicroCode) : Bool := c = Micro.TR0 || 8 ≤ c.toNat

/-- The transfer registers are set up: every micro-state after TR0. -/
def setUp (c : MicroCode) : Bool := 8 ≤ c.toNat

/-- The stop condition's micro-states SP0 to SP7. -/
def stopping (c : MicroCode) : Bool := 0x28 ≤ c.toNat && c.toNat ≤ 0x2F

/-- The micro-states in which the direction is classified: those of the write and read phases, the abort, the loop tail
and the stop condition. -/
def classified (c : MicroCode) : Bool := 0x10 ≤ c.toNat && c.toNat ≤ 0x2F

/-- The write phase and the NACK abort. -/
def writing (c : MicroCode) : Bool := 0x10 ≤ c.toNat && c.toNat ≤ 0x1A

/-- The read phase. -/
def reading (c : MicroCode) : Bool := 0x20 ≤ c.toNat && c.toNat ≤ 0x25

/-- Byte i of the transfer's buffer (20_memory R52). -/
def bufferByte (s : State) (i : Nat) : Byte :=
  if s.bufsel then (if i = 0 then s.tmp0 else s.tmp1) else memGet s.mem (s.argBuf + i)

/-- Byte i of the transfer's buffer exists. -/
def bufferHas (s : State) (i : Nat) : Bool := if s.bufsel then i < 2 else s.argBuf + i < s.params.memSize

/-- Byte 0 of the transfer buffer (20_memory R51). -/
def addressByte (s : State) : Byte := bufferByte s 0

/-- The latches (DDR_SCL, PORT_SCL) in a micro-state; none where only "released" is known (41_initializer R136,
42_bit_byte_transfer R154). -/
def sclLatches (c : MicroCode) : Option (Bool × Bool) :=
  if c ∈ [Micro.ST1, Micro.ST2, Micro.ST3, Micro.ST4, Micro.NK1, Micro.NK2, Micro.XF3, Micro.XF4, Micro.XF5] then
    some (true, true)
  else if c ∈ [Micro.SP3, Micro.SP4, Micro.SP5, Micro.SP6, Micro.SP7] then some (false, false)
  else if c ∈ [Micro.IDLE, Micro.IN0, Micro.TR0, Micro.WB0, Micro.ST0] then none
  else some (true, false)

/-- The latches (DDR_SDA, PORT_SDA) at a site; none where only "released" is known. -/
def sdaLatches (c : MicroCode) : Option (Bool × Bool) :=
  if c ∈ [Micro.ST4, Micro.ST5, Micro.ST6, Micro.SP1, Micro.SP2, Micro.SP3, Micro.SP4, Micro.SP5] then some (true, false)
  else if c ∈ [Micro.WR4, Micro.WR5, Micro.WR6, Micro.NK0, Micro.NK1, Micro.NK2, Micro.RD1, Micro.RD2, Micro.RD3] then
    some (false, true)
  else if c ∈ [Micro.SP6, Micro.SP7] then some (false, false)
  else if c ∈ [Micro.IDLE, Micro.IN0, Micro.TR0, Micro.WB0, Micro.ST0, Micro.ST1, Micro.ST2, Micro.ST3] then none
  else some (true, true)

/-- The latches are the ones expected, or the line is released where none are. -/
def latched (want : Option (Bool × Bool)) (ddr port pull : Bool) : Bool :=
  match want with
  | none => !pull
  | some (d, p) => ddr == d && port == p

/-- The counter and the done flag inside XFER (42_bit_byte_transfer R152). -/
def counting (c : MicroCode) (xn cnt : BitVec 4) (oif : Bool) : Bool :=
  if c ∈ [Micro.XF1, Micro.XF2] then !oif && !cnt.getLsbD 0 && (xn == 8 || cnt == 14)
  else if c ∈ [Micro.XF3, Micro.XF4, Micro.XF5] then !oif && cnt.getLsbD 0 && (xn == 8 || cnt == 15)
  else if c = Micro.XF6 then (if oif then cnt == 0 else !cnt.getLsbD 0 && xn == 8)
  else if c ∈ [Micro.XF7, Micro.XF8] then oif && cnt == 0
  else true

/-- The call of XFER in progress is one of the four call sites (42_bit_byte_transfer R140). -/
def callLegal (k : MicroCode) (xn : BitVec 4) : Bool :=
  (k ∈ [Micro.WR3, Micro.RD2] && xn == 8) || (k ∈ [Micro.WR5, Micro.LP] && xn == 1)

/-- The invariant of every run from reset: 10_state R49 with what makes it inductive. -/
structure Inv (s : State) : Prop where
  /-- 00_scope R10. -/
  params : s.params.wf = true
  /-- Host memory keeps its canonical form and lists no address that does not exist. -/
  memory : Memory.wf s.mem = true ∧ ∀ c ∈ s.mem, c.1 < s.params.memSize
  /-- No reserved STATE code (30_encoding R84). -/
  code : ∃ i, decodeMicro s.fsm = .ok i
  /-- 10_state R49 item 1. -/
  busy : s.busy = !decide (s.fsm = Micro.IDLE)
  /-- A CMD write is pending only in IDLE (41_initializer R130). -/
  pending : s.cmd.isSome = true → s.fsm = Micro.IDLE
  /-- 10_state R49 item 2. -/
  control : s.initDone = true → s.cr = 0x2A
  /-- Before INIT is done only IDLE and IN0 are reached, and IN0 only then (41_initializer R131, R138). -/
  initialised : s.fsm ≠ Micro.IDLE → s.initDone = !decide (s.fsm = Micro.IN0)
  /-- 30_encoding R85, 42_bit_byte_transfer R140. -/
  call : inXfer s.fsm = true → callLegal s.xcont s.xn = true
  /-- 42_bit_byte_transfer R152. -/
  counter : counting s.fsm s.xn s.cnt s.oif = true
  /-- 10_state R49 item 3, 42_bit_byte_transfer R154, 41_initializer R136. -/
  scl : latched (sclLatches s.fsm) s.ddrScl s.portScl (sclPull s) = true
  /-- 42_bit_byte_transfer R154, 41_initializer R136. -/
  sda : latched (sdaLatches (site s)) s.ddrSda s.portSda (sdaPull s) = true
  /-- The LEN_BITS and ADDR_BITS registers hold their widths (10_state R31, R33, R34). -/
  widths : s.argBuf < 2 ^ s.params.addrBits ∧ s.argLen < 2 ^ s.params.lenBits ∧ s.rem < 2 ^ s.params.lenBits ∧
    s.idx < 2 ^ s.params.lenBits
  /-- A TRANSFER's buffer is not empty and lies in host memory (43_transfer_fsm R160). -/
  buffer : transferring s.fsm = true → s.bufsel = false → 1 ≤ s.argLen ∧ s.argBuf + s.argLen ≤ s.params.memSize
  /-- WRITE_BYTE's address byte is even (44_write_byte R221). -/
  tmpEven : transferring s.fsm = true → s.bufsel = true → s.tmp0.getLsbD 0 = false
  /-- 10_state R49 item 4. -/
  count : setUp s.fsm = true → s.idx + s.rem = transferLength s ∧ (s.rem = 0 ↔ stopping (site s) = true)
  /-- Before the first byte (43_transfer_fsm R161, R169). -/
  first : setUp s.fsm = true → s.fsm.toNat < 0x0F → s.phase = Phase.ADDRESS ∧ s.idx = 0
  /-- BD finds ADDRESS on its first visit only, else the classified direction (43_transfer_fsm R169). -/
  dispatch : s.fsm = Micro.BD → (s.phase = Phase.ADDRESS ∧ s.idx = 0) ∨ (s.phase = directionPhase (addressByte s) ∧ 1 ≤ s.idx)
  /-- 10_state R49 item 5. -/
  direction : classified (site s) = true → s.phase = directionPhase (addressByte s)
  /-- Only the address byte is sent in a read (43_transfer_fsm R203). -/
  writes : writing (site s) = true → s.idx = 0 ∨ s.phase = Phase.WRITE
  /-- The read phase receives data bytes only (43_transfer_fsm R182). -/
  reads : reading (site s) = true → s.phase = Phase.READ ∧ 1 ≤ s.idx

/-! ### The grammar of BUSLOG (43_transfer_fsm R204) -/

/-- How far the last transaction in BUSLOG has come. -/
inductive BusPhase where
  /-- No transaction is open. -/
  | outside
  /-- After `Start`. -/
  | started
  /-- The address byte was sent and acknowledged. -/
  | addressed
  /-- Data bytes were sent, all acknowledged. -/
  | written
  /-- Data bytes were received, all acknowledged by the master. -/
  | receiving
  /-- The last data byte was received and not acknowledged by the master. -/
  | received
  /-- A sent byte was not acknowledged. -/
  | nacked
  /-- Not a transaction of 43_transfer_fsm R204. -/
  | broken
  deriving DecidableEq, Repr

/-- One event of BUSLOG (43_transfer_fsm R204). -/
def BusPhase.next (p : BusPhase) (e : BusEvent) : BusPhase :=
  match p, e with
  | .outside, .start => .started
  | .started, .tx _ n => if n then .nacked else .addressed
  | .addressed, .tx _ n => if n then .nacked else .written
  | .written, .tx _ n => if n then .nacked else .written
  | .addressed, .rx _ n => if n then .received else .receiving
  | .receiving, .rx _ n => if n then .received else .receiving
  | .addressed, .stop => .outside
  | .written, .stop => .outside
  | .received, .stop => .outside
  | .nacked, .abort => .outside
  | _, _ => .broken

/-- The phase BUSLOG is in, from `outside`. -/
def busPhase (log : List BusEvent) : BusPhase := log.foldl BusPhase.next .outside

/-- The phase after the first n bytes of a transfer were acknowledged, in direction `phase`. -/
def phaseAfter (phase : BitVec 2) (n : Nat) : BusPhase :=
  match n with
  | 0 => .started
  | 1 => .addressed
  | _ + 2 => if phase = Phase.READ then .receiving else .written

/-- The phase BUSLOG is in at a micro-state of a transfer. -/
def expectedPhase (s : State) : BusPhase :=
  let c := site s
  if c.toNat ≤ 0x0B ∨ c ∈ [Micro.SP6, Micro.SP7] then .outside
  else if c.toNat ≤ 0x0E then .started
  else if c ∈ [Micro.NK0, Micro.NK1, Micro.NK2] then .nacked
  else if c ∈ [Micro.WR6] then phaseAfter s.phase (s.idx + 1)
  else if c = Micro.LP ∨ c = Micro.RD5 then
    (if s.phase = Phase.READ ∧ 1 ≤ s.idx ∧ s.rem = 1 then .received else phaseAfter s.phase (s.idx + 1))
  else if stopping c = true then
    (if s.phase = Phase.READ ∧ 2 ≤ s.idx then .received else phaseAfter s.phase s.idx)
  else phaseAfter s.phase s.idx

/-- After the entries `before`, BUSLOG is a sequence of whole transactions of 43_transfer_fsm R204 and then the part of one
that the micro-state has come to. (`before` is what stood there when the block was last reset: a reset may cut a
transaction short.) -/
def BusLegal (before : List BusEvent) (s : State) : Prop :=
  ∃ log, s.buslog = before ++ log ∧ busPhase log = expectedPhase s

/-! ### Runs of the transfer primitive -/

/-- The answers of `draw EnvSCL()` in an XFER whose k-th bit is stretched by `ws[k]` failed polls
(42_bit_byte_transfer R153). -/
def stretched (ws : List Nat) : List Bool := ws.flatMap fun w => List.replicate w false ++ [true]

/-- The level on SDA when a wait of XF3 has just read SCL high: the master's release and the answer drawn after the one for
SCL (42_bit_byte_transfer R144). -/
def sampled (s : State) : Bool := !sdaPull s && nextSda (afterSclDraw s)

/-- What the master lets through on SDA while a bit of value `b` stands in DR[7] (40_line_primitives R101). -/
def masterReleases (s : State) (b : Bool) : Bool := !s.ddrSda || (s.portSda && b)

/-- The bits of a byte in the order they go over the wire (20_memory R56). -/
def wireBits (b : Byte) : List Bool := (List.range 8).map fun k => b.getLsbD (7 - k)

/-! ### Whole transfers -/

/-- The bytes of the host's transfer buffer, in order. -/
def bufferBytes (s : State) : List Byte := (List.range s.argLen).map fun i => memGet s.mem (s.argBuf + i)

/-- The `Rx` events of a read: the master acknowledges every byte but the last (43_transfer_fsm R198). -/
def rxEvents (data : List Byte) : List BusEvent :=
  match data with
  | [] => []
  | [b] => [.rx b true]
  | b :: rest => .rx b false :: rxEvents rest

/-- The block idles, initialised, with an accepted TRANSFER pending and nothing due from outside. -/
def transferIssued (s : State) : Prop :=
  s.fsm = Micro.IDLE ∧ s.cmd = some Cmd.TRANSFER ∧ s.initDone = true ∧ s.arrivals = [] ∧ 1 ≤ s.argLen ∧
    s.argBuf + s.argLen ≤ s.params.memSize

/-! ### WRITE_BYTE and the TRANSFER it equals (44_write_byte R222) -/

/-- `u` is in the same place of a TRANSFER of the host buffer `[tmp0, tmp1]` as `s` is of a WRITE_BYTE. -/
def Twin (s u : State) : Prop :=
  s.bufsel = true ∧
  u = { s with bufsel := false, argBuf := u.argBuf, argLen := 2, mem := u.mem } ∧
  u.argBuf + 2 ≤ u.params.memSize ∧ memGet u.mem u.argBuf = s.tmp0 ∧ memGet u.mem (u.argBuf + 1) = s.tmp1

end Sys2Proof.Safety
end

