-- ==== Sys2Proof/Certificates/Slice0/Obligations.lean ====
section
/-! DEFINITION. Obligations.lean: the statements for the provers. -/

section

open Sys2Proof Sys2Proof.Machine Sys2Proof.Safety

/-! ### Encoding and the step -/

/-- One word at least of every group of 30_encoding R71 and R83, its bits written out from the tables. -/
def Obligations.DecoderReadsSpecWords : Prop :=
  decode (.cmd 0b00000001#8) = .ok .init ∧ decode (.cmd 0b00000010#8) = .ok .transfer ∧
  decode (.cmd 0b00000011#8) = .ok .writeByte ∧
  decode (.micro 0b000000#6) = .ok .idle ∧ decode (.micro 0b000001#6) = .ok .in0 ∧
  decode (.micro 0b000010#6) = .ok .tr0 ∧ decode (.micro 0b000011#6) = .ok .wb0 ∧
  decode (.micro 0b001011#6) = .ok .st3 ∧ decode (.micro 0b001111#6) = .ok .bd ∧
  decode (.micro 0b010101#6) = .ok .wr5 ∧ decode (.micro 0b011010#6) = .ok .nk2 ∧
  decode (.micro 0b100010#6) = .ok .rd2 ∧ decode (.micro 0b100111#6) = .ok .lp ∧
  decode (.micro 0b101101#6) = .ok .sp5 ∧ decode (.micro 0b110011#6) = .ok .xf3

/-- A code decodes to an instruction exactly when it is that instruction's encoding. -/
def Obligations.DecodeInvertsEncode : Prop := ∀ (w : Code) (i : Instr), decode w = .ok i ↔ w = encode i

/-- The reserved CMD values (30_encoding R71, R75) and STATE codes (30_encoding R84) decode to nothing, and a master step
that finds one is refused. -/
def Obligations.ReservedCodesRefused : Prop :=
  (∀ b : Byte, b = 0 ∨ 4 ≤ b.toNat →
    decode (.cmd b) = .error (.reservedCommand b) ∧
    ∀ s : State, s.fsm = 0x00#6 → s.cmd = some b → masterStep s = .refused .illegalCmd) ∧
  (∀ c : MicroCode,
    (0x04 ≤ c.toNat ∧ c.toNat ≤ 0x07) ∨ c.toNat = 0x17 ∨ (0x1B ≤ c.toNat ∧ c.toNat ≤ 0x1F) ∨ c.toNat = 0x26 ∨
      0x39 ≤ c.toNat →
    decode (.micro c) = .error (.reservedMicroState c) ∧
    ∀ s : State, s.fsm = c → masterStep s = .refused .internalError)

/-- When no event from outside is due, a step performs the instruction it finds: in IDLE with a pending CMD write the
command that names (41_initializer R130), else the micro-state in STATE (10_state R20). `tick` brings the next event one
master step nearer and changes nothing else. -/
def Obligations.StepPerformsDecodedInstruction : Prop :=
  (∀ s : State, dueEvent s = none → s.fsm = 0x00#6 → s.cmd = none → step s = exec .idle (tick s)) ∧
  (∀ (s : State) (c : Byte) (i : Instr), dueEvent s = none → s.fsm = 0x00#6 → s.cmd = some c →
    decode (.cmd c) = .ok i → step s = exec i (tick s)) ∧
  (∀ (s : State) (i : Instr), dueEvent s = none → s.fsm ≠ 0x00#6 → decode (.micro s.fsm) = .ok i →
    step s = exec i (tick s)) ∧
  (∀ s : State, s.arrivals = [] → dueEvent s = none ∧ tick s = s) ∧
  (∀ s : State, tick s = { s with arrivals := (tick s).arrivals })

/-- A word of the opcode table, placed for the next step, is what that step runs (log 16). -/
def Obligations.FetchWordRunsNext : Prop :=
  ∀ (s : State) (nbits w : Nat) (i : Instr), decodeTableWord nbits w = some i →
    step (s.withFetchWord nbits w) = exec i (s.withFetchWord nbits w)

/-- One event per step (60_exceptions R251): an event whose turn it is and that is enabled is the whole step; otherwise the
step is a master step. The schedule of events is the model's (log 2). -/
def Obligations.OneEventPerStep : Prop :=
  (∀ (s : State) (e : Event) (rest : List Arrival), s.arrivals = ⟨0, e⟩ :: rest → enabled s e = true →
    step s = perform { s with arrivals := rest } e) ∧
  (∀ (s : State) (e : Event) (rest : List Arrival), s.arrivals = ⟨0, e⟩ :: rest → enabled s e = false →
    step s = masterStep s) ∧
  (∀ (s : State) (d : Nat) (e : Event) (rest : List Arrival), s.arrivals = ⟨d + 1, e⟩ :: rest →
    step s = masterStep { s with arrivals := ⟨d, e⟩ :: rest })

/-- While a transfer owns its buffer the host's accesses to it are held back (20_memory R64, 70_reset_and_hazards R266;
log 14), and its poll waits for BUSY = 0 (30_encoding R87; log 13). -/
def Obligations.OwnedBufferIsHeldBack : Prop :=
  (∀ (s : State) (a : Nat) (v : Byte), s.busy = true ∨ s.cmd = some 0x02#8 →
    s.argBuf ≤ a → a < s.argBuf + s.argLen → enabled s (.writeMem a v) = false ∧ enabled s (.readMem a) = false) ∧
  (∀ (s : State) (a : Nat) (v : Byte), a < s.argBuf ∨ s.argBuf + s.argLen ≤ a →
    enabled s (.writeMem a v) = true ∧ enabled s (.readMem a) = true) ∧
  (∀ s : State, enabled s .wait = !s.busy)

/-! ### Reset -/

/-- The reset values 10_state R45 gives, for every choice of the parameters. -/
def Obligations.ResetLeavesSpecValues : Prop :=
  State.reset = State.resetWith Params.vectors ∧
  ∀ p : Params, ∀ s : State, s = State.resetWith p →
    s.params = p ∧ s.fsm = 0x00#6 ∧
    s.cnt = 0 ∧ s.oif = false ∧ s.sif = false ∧ s.pf = false ∧ s.dc = false ∧ s.cr = 0x00 ∧
    s.portScl = false ∧ s.ddrScl = false ∧ s.portSda = false ∧ s.ddrSda = false ∧
    s.argBuf = 0 ∧ s.argLen = 0 ∧ s.argAddr = 0 ∧ s.argData = 0 ∧ s.bufsel = false ∧
    s.result = false ∧ s.busy = false ∧ s.initDone = false ∧
    s.buslog = [] ∧ s.trace = [] ∧ s.refused = none ∧ s.cmd = none

/-- A reset, whenever it comes, leaves every register as `State.resetWith` does, releases both lines, and keeps host memory
and the records; TRACE gains `Out(1, 1)` exactly if the master was pulling a line (70_reset_and_hazards R260). That the
registers R45 calls unspecified get the values of log 4 and log 5, and that a pending CMD write is lost (log 9), is the
model's choice. -/
def Obligations.ResetAbandonsCommand : Prop :=
  ∀ (s : State) (rest : List Arrival), s.arrivals = ⟨0, .reset⟩ :: rest →
    step s = .next { State.resetWith s.params with
      mem := s.mem
      buslog := s.buslog
      trace := s.trace ++ (if sclPull s = true ∨ sdaPull s = true then [.out true true] else [])
      refused := s.refused
      envScl := s.envScl
      envSda := s.envSda
      draws := s.draws
      hostReads := s.hostReads
      arrivals := rest }

/-! ### Refusals -/

/-- A master step is refused with each reason exactly in the case 60_exceptions R233 gives for it, the reasons that apply
together in the order of R235: at decode IllegalCmd, NotInit, ReInit, LenZero, AddrRange and BufRange, elsewhere
InternalError alone; the reasons of the host's writes never come from a master step. -/
def Obligations.MasterRefusalsHaveTheirCauses : Prop :=
  ∀ s : State,
    (masterStep s = .refused .illegalCmd ↔ s.fsm = 0x00#6 ∧ ∃ c, s.cmd = some c ∧ (c = 0 ∨ 4 ≤ c.toNat)) ∧
    (masterStep s = .refused .notInit ↔
      s.fsm = 0x00#6 ∧ (s.cmd = some 0x02#8 ∨ s.cmd = some 0x03#8) ∧ s.initDone = false) ∧
    (masterStep s = .refused .reInit ↔ s.fsm = 0x00#6 ∧ s.cmd = some 0x01#8 ∧ s.initDone = true) ∧
    (masterStep s = .refused .lenZero ↔
      s.fsm = 0x00#6 ∧ s.cmd = some 0x02#8 ∧ s.initDone = true ∧ s.argLen = 0) ∧
    (masterStep s = .refused .addrRange ↔
      s.fsm = 0x00#6 ∧ s.cmd = some 0x03#8 ∧ s.initDone = true ∧ 0x7F < s.argAddr.toNat) ∧
    (masterStep s = .refused .bufRange ↔
      s.fsm = 0x00#6 ∧ s.cmd = some 0x02#8 ∧ s.initDone = true ∧ 1 ≤ s.argLen ∧
        s.params.memSize < s.argBuf + s.argLen) ∧
    (masterStep s = .refused .internalError ↔
      ((0x04 ≤ s.fsm.toNat ∧ s.fsm.toNat ≤ 0x07) ∨ s.fsm.toNat = 0x17 ∨ (0x1B ≤ s.fsm.toNat ∧ s.fsm.toNat ≤ 0x1F) ∨
        s.fsm.toNat = 0x26 ∨ 0x39 ≤ s.fsm.toNat) ∨
      (s.fsm = 0x0F#6 ∧ s.phase = 3) ∨ (s.fsm = 0x22#6 ∧ s.bufsel = true)) ∧
    masterStep s ≠ .refused .hostBusy ∧ masterStep s ≠ .refused .readOnly ∧ masterStep s ≠ .refused .operandRange

/-- An event from outside is refused with each reason exactly in the case 60_exceptions R233 and R234 give for it, HostBusy
before the others (R235): only a write of the port is ever refused, and never with a reason of a command's decode. That a
CMD value above one byte is OperandRange is the model's (log 11). -/
def Obligations.HostRefusalsHaveTheirCauses : Prop :=
  ∀ (s : State) (e : Event),
    (perform s e = .refused .hostBusy ↔
      (s.busy = true ∨ s.cmd ≠ none) ∧ ∃ o v, e = .writePort o v ∧ o ≤ 5) ∧
    (perform s e = .refused .readOnly ↔ s.busy = false ∧ s.cmd = none ∧ ∃ v, e = .writePort 1 v) ∧
    (perform s e = .refused .operandRange ↔ s.busy = false ∧ s.cmd = none ∧ ∃ o v, e = .writePort o v ∧
      ((o = 4 ∧ 2 ^ s.params.addrBits ≤ v) ∨ (o = 5 ∧ 2 ^ s.params.lenBits ≤ v) ∨
        ((o = 0 ∨ o = 2 ∨ o = 3) ∧ 0x100 ≤ v))) ∧
    (∀ r, perform s e = .refused r → r = .hostBusy ∨ r = .readOnly ∨ r = .operandRange)

/-! ### Lines -/

/-- The master's contribution to each line and the level it reads (40_line_primitives R101, R102), and that an answer comes
from the environment's list, or else is a free value (log 1). -/
def Obligations.LineLevels : Prop :=
  (∀ s : State, sclPull s = true ↔ s.ddrScl = true ∧ s.portScl = false) ∧
  (∀ s : State, sdaPull s = true ↔ s.ddrSda = true ∧ (s.portSda = false ∨ s.dr.getLsbD 7 = false)) ∧
  (∀ (s : State) (e : Bool), sclLevel s e = true ↔ sclPull s = false ∧ e = true) ∧
  (∀ (s : State) (e : Bool), sdaLevel s e = true ↔ sdaPull s = false ∧ e = true) ∧
  (∀ (s : State) (e : Bool) (rest : List Bool), s.envScl = e :: rest → nextScl s = e) ∧
  (∀ (s : State) (e : Bool) (rest : List Bool), s.envSda = e :: rest → nextSda s = e)

/-! ### Commands -/

/-- INIT is accepted once after a reset (41_initializer R131). -/
def Obligations.InitAcceptedOnce : Prop :=
  (∀ s : State, s.initDone = false →
    StepsTo s (exec .init s) { s with cmd := none, busy := true, fsm := 0x01#6 }) ∧
  (∀ s : State, s.initDone = true → exec .init s = .refused .reInit)

/-- TRANSFER's decode, with its refusals in their order (43_transfer_fsm R160, 60_exceptions R235). -/
def Obligations.TransferDecode : Prop :=
  (∀ s : State, s.initDone = true → 1 ≤ s.argLen → s.argBuf + s.argLen ≤ s.params.memSize →
    StepsTo s (exec .transfer s) { s with cmd := none, bufsel := false, busy := true, fsm := 0x02#6 }) ∧
  (∀ s : State, s.initDone = false → exec .transfer s = .refused .notInit) ∧
  (∀ s : State, s.initDone = true → s.argLen = 0 → exec .transfer s = .refused .lenZero) ∧
  (∀ s : State, s.initDone = true → 1 ≤ s.argLen → s.params.memSize < s.argBuf + s.argLen →
    exec .transfer s = .refused .bufRange)

/-- WRITE_BYTE's decode, with its refusals in their order (44_write_byte R220). -/
def Obligations.WriteByteDecode : Prop :=
  (∀ s : State, s.initDone = true → s.argAddr.toNat ≤ 0x7F →
    StepsTo s (exec .writeByte s) { s with cmd := none, busy := true, fsm := 0x03#6 }) ∧
  (∀ s : State, s.initDone = false → exec .writeByte s = .refused .notInit) ∧
  (∀ s : State, s.initDone = true → 0x7F < s.argAddr.toNat → exec .writeByte s = .refused .addrRange)

/-- IDLE stutters without a pending CMD write and otherwise does what the command's decode does (41_initializer R130). -/
def Obligations.IdleDecodesCommands : Prop :=
  (∀ s : State, s.fsm = 0x00#6 → s.cmd = none → exec .idle s = .next s) ∧
  (∀ s : State, s.cmd = some 0x01#8 → exec .idle s = exec .init s) ∧
  (∀ s : State, s.cmd = some 0x02#8 → exec .idle s = exec .transfer s) ∧
  (∀ s : State, s.cmd = some 0x03#8 → exec .idle s = exec .writeByte s) ∧
  (∀ (s : State) (c : Byte), s.cmd = some c → c = 0 ∨ 4 ≤ c.toNat → exec .idle s = .refused .illegalCmd)

/-- IN0 configures both lines and the shift register in one step (41_initializer R132). -/
def Obligations.In0Configures : Prop :=
  ∀ s : State, StepsTo s (exec .in0 s)
    { s with dr := 0xFF, cnt := 0, sif := false, oif := false, pf := false, cr := 0x2A, ddrScl := true, portScl := true,
             ddrSda := true, portSda := true, initDone := true, busy := false, fsm := 0x00#6 }

/-- TR0 loads the transfer registers (43_transfer_fsm R161). -/
def Obligations.Tr0SetsUpTransfer : Prop :=
  ∀ s : State, StepsTo s (exec .tr0 s)
    { s with rem := if s.bufsel = true then 2 else s.argLen, idx := 0, phase := 0, fsm := 0x08#6 }

/-- WB0 builds WRITE_BYTE's buffer; with a legal address nothing is lost and the address byte is even; TR0 then takes the
length 2 (44_write_byte R221). -/
def Obligations.Wb0BuildsBuffer : Prop :=
  (∀ s : State, StepsTo s (exec .wb0 s)
    { s with tmp0 := s.argAddr <<< 1, tmp1 := s.argData, bufsel := true, fsm := 0x02#6 }) ∧
  (∀ s : State, s.argAddr.toNat ≤ 0x7F →
    ∃ t, exec .wb0 s = .next t ∧ t.tmp0.toNat = 2 * s.argAddr.toNat ∧ t.tmp0.getLsbD 0 = false) ∧
  (∀ s : State, ∃ t u, exec .wb0 s = .next t ∧ exec .tr0 t = .next u ∧ u.rem = 2)

/-! ### Micro-states -/

/-- The delay micro-states change nothing but STATE (40_line_primitives R110). -/
def Obligations.DelaysChangeOnlyState : Prop :=
  ∀ s : State,
    exec .st2 s = .next { s with fsm := 0x0B#6 } ∧ exec .st5 s = .next { s with fsm := 0x0E#6 } ∧
    exec .sp1 s = .next { s with fsm := 0x2A#6 } ∧ exec .sp4 s = .next { s with fsm := 0x2D#6 } ∧
    exec .xf1 s = .next { s with fsm := 0x32#6 } ∧ exec .xf4 s = .next { s with fsm := 0x35#6 } ∧
    exec .xf7 s = .next { s with fsm := 0x38#6 }

/-- The micro-states that drive a line set its direction and its level (40_line_primitives R103, R104); ST3 also logs the
start condition. -/
def Obligations.LinesDriven : Prop :=
  ∀ s : State,
    StepsTo s (exec .st0 s) { s with ddrScl := true, portScl := true, fsm := 0x09#6 } ∧
    StepsTo s (exec .st3 s) { s with ddrSda := true, portSda := false, buslog := s.buslog ++ [.start], fsm := 0x0C#6 } ∧
    StepsTo s (exec .st4 s) { s with ddrScl := true, portScl := false, fsm := 0x0D#6 } ∧
    StepsTo s (exec .wr0 s) { s with ddrScl := true, portScl := false, fsm := 0x11#6 } ∧
    StepsTo s (exec .sp0 s) { s with ddrSda := true, portSda := false, fsm := 0x29#6 }

/-- The micro-states that release a line high set only its level (40_line_primitives R105). -/
def Obligations.LinesReleasedHigh : Prop :=
  ∀ s : State,
    StepsTo s (exec .st6 s) { s with portSda := true, fsm := 0x0F#6 } ∧
    StepsTo s (exec .nk0 s) { s with portScl := true, fsm := 0x19#6 } ∧
    StepsTo s (exec .nk1 s) { s with portSda := true, fsm := 0x1A#6 }

/-- The micro-states that turn a line to input or output set only its direction (40_line_primitives R106, R107); SP5 also
logs the stop condition. -/
def Obligations.LineDirectionsSet : Prop :=
  ∀ s : State,
    StepsTo s (exec .wr3 s) { s with ddrSda := false, fsm := 0x14#6 } ∧
    StepsTo s (exec .wr6 s) { s with ddrSda := true, fsm := 0x27#6 } ∧
    StepsTo s (exec .rd0 s) { s with ddrSda := false, fsm := 0x21#6 } ∧
    StepsTo s (exec .rd3 s) { s with ddrSda := true, fsm := 0x24#6 } ∧
    StepsTo s (exec .sp2 s) { s with ddrScl := false, fsm := 0x2B#6 } ∧
    StepsTo s (exec .sp5 s) { s with ddrSda := false, buslog := s.buslog ++ [.stop], fsm := 0x2E#6 }

/-- ST1, SP3 and SP6 take one answer for SCL: a high level is recorded and ends the wait, a low level polls again
(40_line_primitives R108). -/
def Obligations.ClockWaitsPoll : Prop :=
  ∀ (i : Instr) (self next : MicroCode),
    (i = .st1 ∧ self = 0x09#6 ∧ next = 0x0A#6) ∨ (i = .sp3 ∧ self = 0x2B#6 ∧ next = 0x2C#6) ∨
      (i = .sp6 ∧ self = 0x2E#6 ∧ next = 0x2F#6) →
    ∀ s : State,
      (sclPull s = false ∧ nextScl s = true →
        exec i s = .next { afterSclDraw s with trace := s.trace ++ [.sclHigh], fsm := next }) ∧
      (sclPull s = true ∨ nextScl s = false → exec i s = .next { afterSclDraw s with fsm := self })

/-- XF3 samples SDA, with a second answer, in the step that reads SCL high, and only then (42_bit_byte_transfer R144). -/
def Obligations.Xf3SamplesWithHighClock : Prop :=
  ∀ s : State,
    (sclPull s = false ∧ nextScl s = true →
      exec .xf3 s = .next { afterSdaDraw (afterSclDraw s) with
        sbit := sampled s, trace := s.trace ++ [.sclHigh, .sample (sampled s)], fsm := 0x34#6 }) ∧
    (sclPull s = true ∨ nextScl s = false → exec .xf3 s = .next { afterSclDraw s with fsm := 0x33#6 })

/-- The four call sites of XFER (42_bit_byte_transfer R140). -/
def Obligations.XferCallSites : Prop :=
  ∀ s : State,
    exec .wr2 s = .next { s with xn := 8, xcont := 0x13#6, fsm := 0x30#6 } ∧
    exec .wr4 s = .next { s with xn := 1, xcont := 0x15#6, fsm := 0x30#6 } ∧
    exec .rd1 s = .next { s with xn := 8, xcont := 0x22#6, fsm := 0x30#6 } ∧
    exec .rd5 s = .next { s with xn := 1, xcont := 0x27#6, fsm := 0x30#6 }

/-- XF0 presets the counter to (16 - 2n) mod 16 and clears the flags (42_bit_byte_transfer R141, 40_line_primitives R112);
for an `XN` other than 8 the pseudocode takes the one-bit preset. -/
def Obligations.Xf0ArmsCounter : Prop :=
  ∀ s : State, exec .xf0 s = .next
    { s with cnt := if s.xn = 8 then 0 else 14, oif := false, sif := false, pf := false, fsm := 0x31#6 }

/-- The strobes of XF2 and XF5 toggle the clock latch and count; XF5 also shifts the sampled bit into `DR`
(40_line_primitives R113, R114); a strobe leaves `CR` = 0x2A (10_state R27). That it does so whatever `CR` held, also before
INIT, where 41_initializer R138 gives a strobe no defined effect, is the model's (log 18). -/
def Obligations.StrobesCountAndShift : Prop :=
  ∀ s : State,
    StepsTo s (exec .xf2 s)
      { s with portScl := !s.portScl, cnt := if s.cnt = 15 then 0 else s.cnt + 1,
               oif := if s.cnt = 15 then true else s.oif, cr := 0x2A, fsm := 0x33#6 } ∧
    StepsTo s (exec .xf5 s)
      { s with portScl := !s.portScl, cnt := if s.cnt = 15 then 0 else s.cnt + 1,
               oif := if s.cnt = 15 then true else s.oif, cr := 0x2A,
               dr := (s.dr <<< 1) ||| (if s.sbit = true then 1 else 0), fsm := 0x36#6 }

/-- XF6 tests the done flag and leaves it (42_bit_byte_transfer R147). -/
def Obligations.Xf6TestsDoneFlag : Prop :=
  ∀ s : State, exec .xf6 s = .next { s with fsm := if s.oif = true then 0x37#6 else 0x31#6 }

/-- XF8 returns `DR` and goes to the continuation; `DR` and `OIF` keep their values (42_bit_byte_transfer R149). -/
def Obligations.Xf8ReturnsData : Prop := ∀ s : State, exec .xf8 s = .next { s with xret := s.dr, fsm := s.xcont }

/-- BD classifies the direction on its first visit and dispatches afterwards (43_transfer_fsm R169). A classification from a
byte that does not exist is the model's fault (log 7). -/
def Obligations.BdDispatches : Prop :=
  (∀ s : State, s.phase = 0 → bufferHas s 0 = true →
    exec .bd s = .next { s with phase := if (bufferByte s 0).getLsbD 0 = true then 2 else 1, fsm := 0x10#6 }) ∧
  (∀ s : State, s.phase = 1 → exec .bd s = .next { s with fsm := 0x10#6 }) ∧
  (∀ s : State, s.phase = 2 → exec .bd s = .next { s with fsm := 0x20#6 }) ∧
  (∀ s : State, s.phase = 3 → exec .bd s = .refused .internalError) ∧
  (∀ s : State, s.phase = 0 → bufferHas s 0 = false → exec .bd s = .fault (.noSuchAddress s.argBuf))

/-- WR1 loads the byte at `IDX` (43_transfer_fsm R171); WR5 logs it with the slave's bit and branches on that bit alone
(R175). Where the byte does not exist the model faults (log 7). -/
def Obligations.WritePathSendsBufferByte : Prop :=
  (∀ s : State, bufferHas s s.idx = true →
    StepsTo s (exec .wr1 s) { s with dr := bufferByte s s.idx, fsm := 0x12#6 } ∧
    (s.xret.getLsbD 0 = true → exec .wr5 s = .next
      { s with buslog := s.buslog ++ [.tx (bufferByte s s.idx) true], fsm := 0x18#6 }) ∧
    (s.xret.getLsbD 0 = false → exec .wr5 s = .next
      { s with buslog := s.buslog ++ [.tx (bufferByte s s.idx) false], fsm := 0x16#6 })) ∧
  (∀ s : State, bufferHas s s.idx = false →
    ∃ f, exec .wr1 s = .fault f ∧ exec .wr5 s = .fault f ∧
      f = (if s.bufsel = true then .noSuchTmpByte s.idx else .noSuchAddress (s.argBuf + s.idx)))

/-- NK2 returns failure: RESULT and BUSY are 0 and the abort is logged, with no stop condition, and every other register,
`REM` and `IDX` among them, keeps its value (43_transfer_fsm R179). -/
def Obligations.Nk2ReturnsFailure : Prop :=
  ∀ s : State, exec .nk2 s = .next
    { s with result := false, busy := false, buslog := s.buslog ++ [.abort], fsm := 0x00#6 }

/-- SP7 returns success (43_transfer_fsm R194). -/
def Obligations.Sp7ReturnsSuccess : Prop :=
  ∀ s : State, exec .sp7 s = .next { s with result := true, busy := false, fsm := 0x00#6 }

/-- RD2 stores the received byte at `ARG_BUF + IDX` and changes no other byte and no register but STATE (43_transfer_fsm
R182, 20_memory R53). -/
def Obligations.Rd2StoresReceivedByte : Prop :=
  (∀ s : State, s.bufsel = false → s.argBuf + s.idx < s.params.memSize →
    ∃ t, exec .rd2 s = .next t ∧ t = { s with mem := t.mem, fsm := 0x23#6 } ∧
      (Memory.wf s.mem = true → Memory.wf t.mem = true ∧
        ∀ a, memGet t.mem a = if a = s.argBuf + s.idx then s.xret else memGet s.mem a)) ∧
  (∀ s : State, s.bufsel = true → exec .rd2 s = .refused .internalError) ∧
  (∀ s : State, s.bufsel = false → s.params.memSize ≤ s.argBuf + s.idx →
    exec .rd2 s = .fault (.noSuchAddress (s.argBuf + s.idx)))

/-- RD4 answers the last byte with NACK (0xFF) and any other with ACK (0x00), and logs it (43_transfer_fsm R184). -/
def Obligations.Rd4ChoosesAcknowledge : Prop :=
  (∀ s : State, s.rem = 1 →
    StepsTo s (exec .rd4 s) { s with dr := 0xFF, buslog := s.buslog ++ [.rx s.xret true], fsm := 0x25#6 }) ∧
  (∀ s : State, s.rem ≠ 1 →
    StepsTo s (exec .rd4 s) { s with dr := 0x00, buslog := s.buslog ++ [.rx s.xret false], fsm := 0x25#6 })

/-- LP counts one byte and loops while the new `REM` is not 0 (43_transfer_fsm R186); outside the rule's own range, which no
run reaches, both registers wrap at LEN_BITS. -/
def Obligations.LpCountsByte : Prop :=
  (∀ s : State, 1 ≤ s.rem → s.rem < 2 ^ s.params.lenBits → s.idx + 1 < 2 ^ s.params.lenBits →
    exec .lp s = .next { s with rem := s.rem - 1, idx := s.idx + 1, fsm := if s.rem = 1 then 0x28#6 else 0x0F#6 }) ∧
  (∀ s : State, ∃ t, exec .lp s = .next t ∧ t = { s with rem := t.rem, idx := t.idx, fsm := t.fsm } ∧
    t.rem < 2 ^ s.params.lenBits ∧ (t.rem + 1) % 2 ^ s.params.lenBits = s.rem % 2 ^ s.params.lenBits ∧
    t.idx = (s.idx + 1) % 2 ^ s.params.lenBits ∧ t.fsm = if t.rem = 0 then 0x28#6 else 0x0F#6)

/-! ### The host port -/

/-- A host write of a value that fits is stored unchanged, one that does not is refused OperandRange, when the port is
free (60_exceptions R234). -/
def Obligations.HostWriteChecksRange : Prop :=
  ∀ (s : State) (v : Nat), s.busy = false → s.cmd = none →
    (v < 2 ^ s.params.addrBits → perform s (.writePort 4 v) = .next { s with argBuf := v }) ∧
    (2 ^ s.params.addrBits ≤ v → perform s (.writePort 4 v) = .refused .operandRange) ∧
    (v < 2 ^ s.params.lenBits → perform s (.writePort 5 v) = .next { s with argLen := v }) ∧
    (2 ^ s.params.lenBits ≤ v → perform s (.writePort 5 v) = .refused .operandRange) ∧
    (v < 0x100 → perform s (.writePort 2 v) = .next { s with argAddr := BitVec.ofNat 8 v }) ∧
    (0x100 ≤ v → perform s (.writePort 2 v) = .refused .operandRange) ∧
    (v < 0x100 → perform s (.writePort 3 v) = .next { s with argData := BitVec.ofNat 8 v }) ∧
    (0x100 ≤ v → perform s (.writePort 3 v) = .refused .operandRange)

/-- A write of CMD makes the command pending; a write of STATUS is refused; while a command runs or is pending every write
of the port is refused HostBusy, before any other check (30_encoding R74 to R76, 60_exceptions R235). An offset above 5 is
the model's fault (log 12), and a CMD value above one byte its OperandRange (log 11). -/
def Obligations.HostWriteOfCommand : Prop :=
  (∀ (s : State) (v : Nat), s.busy = false → s.cmd = none →
    (v < 0x100 → perform s (.writePort 0 v) = .next { s with cmd := some (BitVec.ofNat 8 v) }) ∧
    (0x100 ≤ v → perform s (.writePort 0 v) = .refused .operandRange) ∧
    perform s (.writePort 1 v) = .refused .readOnly) ∧
  (∀ (s : State) (o v : Nat), s.busy = true ∨ s.cmd ≠ none → o ≤ 5 →
    perform s (.writePort o v) = .refused .hostBusy) ∧
  (∀ (s : State) (o v : Nat), 5 < o → perform s (.writePort o v) = .fault (.noSuchPort o))

/-- Reads of the port (30_encoding R70, R72, R75): CMD reads 0x00, STATUS has BUSY, RESULT and INIT_DONE in bits 0 to 2 and
0 above, the operand registers read as held; a read changes only what the host has read. -/
def Obligations.HostReadsPort : Prop :=
  ∀ s : State,
    (∀ (o : Nat), o ≤ 5 → ∃ v, perform s (.readPort o) = .next { s with hostReads := s.hostReads ++ [.port o v] } ∧
      (o = 0 → v = 0) ∧
      (o = 1 → v = (if s.busy = true then 1 else 0) + (if s.result = true then 2 else 0) +
        (if s.initDone = true then 4 else 0)) ∧
      (o = 2 → v = s.argAddr.toNat) ∧ (o = 3 → v = s.argData.toNat) ∧ (o = 4 → v = s.argBuf) ∧
      (o = 5 → v = s.argLen)) ∧
    perform s .wait = perform s (.readPort 1)

/-- The host's own accesses to memory, one byte each; an address outside host memory is the model's fault (20_memory R50,
R57; log 7). -/
def Obligations.HostAccessesMemory : Prop :=
  (∀ (s : State) (a : Nat) (v : Byte), a < s.params.memSize → Memory.wf s.mem = true →
    ∃ t, perform s (.writeMem a v) = .next t ∧ t = { s with mem := t.mem } ∧ Memory.wf t.mem = true ∧
      ∀ b, memGet t.mem b = if b = a then v else memGet s.mem b) ∧
  (∀ (s : State) (a : Nat), a < s.params.memSize →
    perform s (.readMem a) = .next { s with hostReads := s.hostReads ++ [.memory a (memGet s.mem a)] }) ∧
  (∀ (s : State) (a : Nat) (v : Byte), s.params.memSize ≤ a →
    perform s (.writeMem a v) = .fault (.noSuchAddress a) ∧ perform s (.readMem a) = .fault (.noSuchAddress a))

/-- The lines of the command syntax, issued to a free port with operands that fit, leave their operands in the registers
and the command pending (30_encoding R87, R89). -/
def Obligations.CommandLinesIssue : Prop :=
  ∀ (s : State) (rest : List Arrival), s.busy = false → s.cmd = none →
    (s.arrivals = commandEvents .init ++ rest → runs 1 s = .next { s with cmd := some 0x01#8, arrivals := rest }) ∧
    (∀ buf len, buf < 2 ^ s.params.addrBits → len < 2 ^ s.params.lenBits →
      s.arrivals = commandEvents (.transfer buf len) ++ rest →
      runs 3 s = .next { s with argBuf := buf, argLen := len, cmd := some 0x02#8, arrivals := rest }) ∧
    (∀ addr data, addr < 0x100 → data < 0x100 → s.arrivals = commandEvents (.writeByte addr data) ++ rest →
      runs 3 s = .next { s with argAddr := BitVec.ofNat 8 addr, argData := BitVec.ofNat 8 data, cmd := some 0x03#8,
                                arrivals := rest }) ∧
    (∀ buf, buf < 2 ^ s.params.addrBits → 1 < 2 ^ s.params.lenBits → s.arrivals = commandEvents (.probe buf) ++ rest →
      runs 3 s = .next { s with argBuf := buf, argLen := 1, cmd := some 0x02#8, arrivals := rest })

/-! ### Whole-machine rules -/

/-- Which micro-states and commands write each register (10_state R44, R28); no instruction writes a host operand register,
DC, the parameters, REFUSED, the coming events or what the host has read. IDLE stands in a list where it performs a
command's decode. -/
def Obligations.RegistersWrittenOnlyByTheirWriters : Prop :=
  ∀ (i : Instr) (s t : State), exec i s = .next t →
    (t.xcont ≠ s.xcont ∨ t.xn ≠ s.xn → i ∈ [.wr2, .wr4, .rd1, .rd5]) ∧
    (t.dr ≠ s.dr → i ∈ [.in0, .wr1, .rd4, .xf5]) ∧
    (t.cnt ≠ s.cnt ∨ t.oif ≠ s.oif → i ∈ [.in0, .xf0, .xf2, .xf5]) ∧
    (t.sif ≠ s.sif ∨ t.pf ≠ s.pf → i ∈ [.in0, .xf0]) ∧
    (t.cr ≠ s.cr → i ∈ [.in0, .xf2, .xf5]) ∧
    (t.portScl ≠ s.portScl → i ∈ [.in0, .st0, .st4, .wr0, .nk0, .xf2, .xf5]) ∧
    (t.ddrScl ≠ s.ddrScl → i ∈ [.in0, .st0, .st4, .wr0, .sp2]) ∧
    (t.portSda ≠ s.portSda → i ∈ [.in0, .st3, .st6, .nk1, .sp0]) ∧
    (t.ddrSda ≠ s.ddrSda → i ∈ [.in0, .st3, .wr3, .wr6, .rd0, .rd3, .sp0, .sp5]) ∧
    (t.phase ≠ s.phase → i ∈ [.tr0, .bd]) ∧
    (t.bufsel ≠ s.bufsel → i ∈ [.idle, .transfer, .wb0]) ∧
    (t.rem ≠ s.rem ∨ t.idx ≠ s.idx → i ∈ [.tr0, .lp]) ∧
    (t.xret ≠ s.xret → i = .xf8) ∧ (t.sbit ≠ s.sbit → i = .xf3) ∧
    (t.tmp0 ≠ s.tmp0 ∨ t.tmp1 ≠ s.tmp1 → i = .wb0) ∧
    (t.result ≠ s.result → i ∈ [.nk2, .sp7]) ∧
    (t.busy ≠ s.busy → i ∈ [.idle, .init, .transfer, .writeByte, .in0, .nk2, .sp7]) ∧
    (t.initDone ≠ s.initDone → i = .in0) ∧
    (t.cmd ≠ s.cmd → i ∈ [.idle, .init, .transfer, .writeByte]) ∧
    (t.mem ≠ s.mem → i = .rd2) ∧
    (t.buslog ≠ s.buslog → i ∈ [.st3, .wr5, .nk2, .rd4, .sp5]) ∧
    (t.envScl ≠ s.envScl → i ∈ [.st1, .sp3, .sp6, .xf3]) ∧ (t.envSda ≠ s.envSda → i = .xf3) ∧
    t.dc = s.dc ∧ t.argBuf = s.argBuf ∧ t.argLen = s.argLen ∧ t.argAddr = s.argAddr ∧ t.argData = s.argData ∧
    t.params = s.params ∧ t.refused = s.refused ∧ t.arrivals = s.arrivals ∧ t.hostReads = s.hostReads

/-- No step, an event from outside or a reset included, takes anything back from a record or touches REFUSED (10_state R42,
R43). -/
def Obligations.RecordsOnlyGrow : Prop :=
  ∀ s t : State, step s = .next t →
    s.buslog <+: t.buslog ∧ s.trace <+: t.trace ∧ s.hostReads <+: t.hostReads ∧ t.refused = s.refused ∧
      t.params = s.params

/-- Memories in canonical form that read alike are the same memory. -/
def Obligations.MemoryIsCanonical : Prop :=
  ∀ m n : Memory, Memory.wf m = true → Memory.wf n = true → (∀ a, memGet m a = memGet n a) → m = n

/-- The invariant holds after reset, for every legal choice of the parameters. -/
def Obligations.InvariantHoldsAtReset : Prop := ∀ p : Params, p.wf = true → Inv (State.resetWith p)

/-- Every step, a master step, a host action or a reset, keeps the invariant: 10_state R49 with the line latches, the edge
counter and the transfer registers at every micro-state. -/
def Obligations.StepKeepsInvariant : Prop := ∀ s t : State, Inv s → step s = .next t → Inv t

/-- Under the invariant the master never faults and never meets the InternalError refusals; without a pending command every
master step completes (00_scope R13, 60_exceptions R233). -/
def Obligations.MasterNeverStops : Prop :=
  ∀ s : State, Inv s →
    (s.cmd = none → ∃ t, masterStep s = .next t) ∧ (∀ f, masterStep s ≠ .fault f) ∧
      masterStep s ≠ .refused .internalError

/-- While SCL is released before and after a step, SDA falls exactly at ST3 and rises exactly at SP5: the start and stop
conditions (40_line_primitives R118). -/
def Obligations.StartAndStopConditions : Prop :=
  ∀ s t : State, Inv s → masterStep s = .next t →
    ((sclPull s = false ∧ sclPull t = false ∧ sdaPull s = false ∧ sdaPull t = true) ↔ s.fsm = 0x0B#6) ∧
    ((sclPull s = false ∧ sclPull t = false ∧ sdaPull s = true ∧ sdaPull t = false) ↔ s.fsm = 0x2D#6)

/-- BUSLOG stays a sequence of whole transactions of 43_transfer_fsm R204 followed by the part of one that the micro-state
has come to; a reset starts a new sequence. -/
def Obligations.BusLogKeepsGrammar : Prop :=
  (∀ p : Params, BusLegal [] (State.resetWith p)) ∧
  (∀ (before : List BusEvent) (s t : State), Inv s → BusLegal before s → step s = .next t →
    (∀ u, dueEvent s ≠ some (.reset, u)) → BusLegal before t) ∧
  (∀ s t u : State, dueEvent s = some (.reset, u) → step s = .next t → BusLegal t.buslog t)

/-- Only the read phase of a TRANSFER writes host memory, and only a data byte of its own buffer: never byte 0, never a byte
outside the buffer (43_transfer_fsm R208). -/
def Obligations.MasterWritesOnlyReadData : Prop :=
  ∀ (s t : State) (a : Nat), Inv s → masterStep s = .next t → memGet t.mem a ≠ memGet s.mem a →
    s.fsm = 0x22#6 ∧ s.bufsel = false ∧ s.phase = 2 ∧ a = s.argBuf + s.idx ∧
      s.argBuf + 1 ≤ a ∧ a < s.argBuf + s.argLen ∧ memGet t.mem a = s.xret

/-- The master answers a received byte with NACK exactly when it is the buffer's last (43_transfer_fsm R198). -/
def Obligations.LastReadByteIsNacked : Prop :=
  ∀ s : State, Inv s → s.fsm = 0x24#6 →
    ∃ t, masterStep s = .next t ∧
      (s.idx + 1 = s.argLen → t.dr = 0xFF ∧ t.buslog = s.buslog ++ [.rx s.xret true]) ∧
      (s.idx + 1 ≠ s.argLen → t.dr = 0x00 ∧ t.buslog = s.buslog ++ [.rx s.xret false])

/-! ### Runs -/

/-- A wait polls as often as the environment answers low, changing nothing else, and ends with the first high answer; there
is no bound on the polls (60_exceptions R236, 42_bit_byte_transfer R153). -/
def Obligations.WaitsHaveNoBound : Prop :=
  ∀ (n : Nat) (s : State) (rest : List Bool), s.fsm ∈ [0x09#6, 0x2B#6, 0x2E#6, 0x33#6] → s.arrivals = [] →
    s.envScl = List.replicate n false ++ rest →
    runs n s = .next { s with envScl := rest } ∧
    (∀ more, rest = true :: more → sclPull s = false →
      ∃ t, runs (n + 1) s = .next t ∧ t.fsm = s.fsm + 1 ∧ t.envScl = more)

/-- One bit of XFER in TRACE: rising edge, clock seen high, sample, falling edge (43_transfer_fsm R205). In a state in which
INIT has not run, where 41_initializer R138 gives the two strobes no defined effect, their `Out` entries are the model's
(log 18). -/
def Obligations.OneBitTrace : Prop :=
  ∀ s : State, s.fsm = 0x31#6 → s.arrivals = [] → s.ddrScl = true → s.portScl = false → nextScl s = true →
    ∃ t, runs 6 s = .next t ∧ t.fsm = (if t.oif = true then 0x37#6 else 0x31#6) ∧ t.portScl = false ∧
      t.trace = s.trace ++ [.out true (!sdaPull s), .sclHigh, .sample (sampled s), .out false (!sdaPull t)]

/-- One XFER of 8 bits or 1, from XF0 with SCL pulled low, the k-th bit stretched by any number of failed polls: it takes
3 + 6n steps and one more for each failed poll, returns to the continuation with `XRET` = `DR` = the old `DR` shifted by the
n samples, each sample being the environment's answer where the master releases SDA and 0 where it pulls it, and leaves the
counter at 0, the done flag set and SCL pulled low (42_bit_byte_transfer R150 to R153), with `CR` = 0x2A (10_state R27). In a
state in which INIT has not run, where 41_initializer R138 gives a strobe no defined effect, the strobes and this `CR` are the
model's (log 18). -/
def Obligations.XferReturnsSampledBits : Prop :=
  ∀ (n : Nat) (s : State) (ws : List Nat) (bits scl sda : List Bool),
    n = 8 ∨ n = 1 → s.xn = BitVec.ofNat 4 n → s.fsm = 0x30#6 → s.arrivals = [] →
    s.ddrScl = true → s.portScl = false →
    ws.length = n → bits.length = n → s.envScl = stretched ws ++ scl → s.envSda = bits ++ sda →
    ∃ t, runs (3 + 6 * n + ws.sum) s = .next t ∧
      t = { s with fsm := s.xcont, dr := t.dr, cnt := 0, oif := true, sif := false, pf := false, cr := 0x2A,
                   xret := t.dr, sbit := t.dr.getLsbD 0, trace := t.trace, envScl := scl, envSda := sda } ∧
      ∀ j, j < 8 → t.dr.getLsbD j =
        if j < n then masterReleases s (s.dr.getLsbD (8 - n + j)) && bits.getD (n - 1 - j) false
        else s.dr.getLsbD (j - n)

/-- A write transfer of L bytes, all acknowledged and without clock stretching, takes 17 + 69 L steps from its decode, sends
the buffer's bytes in order between a start and a stop, returns 1, leaves both lines released as inputs and host memory as it
was (43_transfer_fsm R195, R196, R202, R204, R206). -/
def Obligations.WriteTransferSucceeds : Prop :=
  ∀ (s : State) (samples : List (List Bool)) (scl sda : List Bool),
    Inv s → transferIssued s → (memGet s.mem s.argBuf).getLsbD 0 = false →
    samples.length = s.argLen → (∀ w ∈ samples, w.length = 8) →
    s.envScl = List.replicate (9 * s.argLen + 3) true ++ scl →
    s.envSda = samples.flatMap (fun w => w ++ [false]) ++ sda →
    ∃ t, runs (17 + 69 * s.argLen) s = .next t ∧
      t.fsm = 0x00#6 ∧ t.result = true ∧ t.busy = false ∧ t.mem = s.mem ∧
      t.buslog = s.buslog ++ [.start] ++ (bufferBytes s).map (fun b => .tx b false) ++ [.stop] ∧
      t.ddrScl = false ∧ t.portScl = false ∧ t.ddrSda = false ∧ t.portSda = false ∧
      t.rem = 0 ∧ t.idx = s.argLen ∧ t.cnt = 0 ∧ t.oif = true ∧ t.cr = 0x2A ∧ t.envScl = scl ∧ t.envSda = sda

/-- A transfer whose sent byte j is the first not acknowledged (the address byte of either direction, or a data byte of a
write), without clock stretching, takes 79 + 69 j steps, sends bytes 0 to j and no more, aborts without a stop, returns 0 and
leaves host memory as it was (43_transfer_fsm R197, R199, R202, R206). -/
def Obligations.NackAbortsTransfer : Prop :=
  ∀ (s : State) (j : Nat) (samples : List (List Bool)) (last scl sda : List Bool),
    Inv s → transferIssued s → j < s.argLen → (memGet s.mem s.argBuf).getLsbD 0 = false ∨ j = 0 →
    samples.length = j → (∀ w ∈ samples, w.length = 8) → last.length = 8 →
    s.envScl = List.replicate (9 * j + 10) true ++ scl →
    s.envSda = samples.flatMap (fun w => w ++ [false]) ++ last ++ [true] ++ sda →
    ∃ t, runs (79 + 69 * j) s = .next t ∧
      t.fsm = 0x00#6 ∧ t.result = false ∧ t.busy = false ∧ t.mem = s.mem ∧
      t.buslog = s.buslog ++ [.start] ++ ((bufferBytes s).take j).map (fun b => .tx b false) ++
        [.tx (memGet s.mem (s.argBuf + j)) true, .abort] ∧
      t.ddrScl = true ∧ t.portScl = true ∧ t.ddrSda = false ∧ t.portSda = true ∧
      t.rem = s.argLen - j ∧ t.idx = j ∧ t.cnt = 0 ∧ t.oif = true ∧ t.cr = 0x2A ∧ t.envScl = scl ∧ t.envSda = sda

/-- A read transfer of L bytes whose address is acknowledged, without clock stretching, takes 17 + 69 + 68 (L - 1) steps,
stores the slave's L - 1 bytes after the address byte and changes no other byte, acknowledges each but the last, and returns
1; with L = 1 it is a probe that receives nothing (43_transfer_fsm R196, R198, R200, R201, R206, R208). -/
def Obligations.ReadTransferSucceeds : Prop :=
  ∀ (s : State) (address : List Bool) (data : List (Byte × Bool)) (scl sda : List Bool),
    Inv s → transferIssued s → (memGet s.mem s.argBuf).getLsbD 0 = true →
    address.length = 8 → data.length + 1 = s.argLen →
    s.envScl = List.replicate (9 * s.argLen + 3) true ++ scl →
    s.envSda = address ++ [false] ++ data.flatMap (fun d => wireBits d.1 ++ [d.2]) ++ sda →
    ∃ t, runs (86 + 68 * (s.argLen - 1)) s = .next t ∧
      t.fsm = 0x00#6 ∧ t.result = true ∧ t.busy = false ∧
      (∀ a, memGet t.mem a = if s.argBuf < a ∧ a < s.argBuf + s.argLen then
        (data.map (fun d => d.1)).getD (a - s.argBuf - 1) 0 else memGet s.mem a) ∧
      t.buslog = s.buslog ++ [.start, .tx (memGet s.mem s.argBuf) false] ++ rxEvents (data.map (fun d => d.1)) ++ [.stop] ∧
      t.ddrScl = false ∧ t.portScl = false ∧ t.ddrSda = false ∧ t.portSda = false ∧
      t.rem = 0 ∧ t.idx = s.argLen ∧ t.cnt = 0 ∧ t.oif = true ∧ t.cr = 0x2A

/-- A WRITE_BYTE from TR0 on and the TRANSFER of the same two bytes run alike, step for step, to their end and beyond: the
states differ in where the bytes lie and in nothing else, and no host byte is written (44_write_byte R222). -/
def Obligations.WriteByteEqualsTransfer : Prop :=
  ∀ (n : Nat) (s u : State), Inv s → Twin s u → s.fsm ≠ 0x03#6 → s.cmd = none → s.arrivals = [] →
    ∃ s' u', runs n s = .next s' ∧ runs n u = .next u' ∧ Twin s' u' ∧ s'.mem = s.mem ∧ u'.mem = u.mem

end
end

