-- ==== Sys2Proof/Laws/Memory.lean ====
section
/-! SUPPORT. Laws/Memory.lean: host memory as a map, and its canonical form. -/

namespace Sys2Proof.Machine

/-- A memory in canonical form lists only addresses above its bound, and reads as unlisted up to it. -/
theorem memGet_of_memAbove {l : Nat} {m : Memory} {a : Nat} (h : memAbove (some l) m = true) (ha : a ≤ l) :
    memGet m a = unlistedByte := by
  induction m generalizing l with
  | nil => rfl
  | cons c rest ih =>
    obtain ⟨k, v⟩ := c
    simp only [memAbove, Bool.and_eq_true, decide_eq_true_eq] at h
    have hk : k ≠ a := by omega
    simp only [memGet, if_neg hk]
    exact ih h.2 (by omega)

/-- A lower bound may be lowered, or dropped. -/
theorem memAbove_weaken {l l' : Nat} {m : Memory} (h : memAbove (some l) m = true) (hl : l' ≤ l) :
    memAbove (some l') m = true := by
  cases m with
  | nil => rfl
  | cons c rest =>
    simp only [memAbove, Bool.and_eq_true, decide_eq_true_eq] at h ⊢
    exact ⟨⟨by omega, h.1.2⟩, h.2⟩

theorem memAbove_none {l : Nat} {m : Memory} (h : memAbove (some l) m = true) : memAbove none m = true := by
  cases m with
  | nil => rfl
  | cons c rest =>
    simp only [memAbove, Bool.and_eq_true] at h ⊢
    exact ⟨⟨trivial, h.1.2⟩, h.2⟩

theorem memGet_memCons (a b : Nat) (v : Byte) {m : Memory} (h : memGet m a = unlistedByte) :
    memGet (memCons a v m) b = if b = a then v else memGet m b := by
  unfold memCons
  by_cases hv : v = unlistedByte
  · by_cases hb : b = a
    · simp [hv, hb, h]
    · simp [hv, hb]
  · by_cases hb : b = a
    · simp [hv, hb, memGet]
    · simp [hv, hb, memGet, Ne.symm hb]

theorem memAbove_memCons {low : Option Nat} {a : Nat} {v : Byte} {m : Memory}
    (hlow : ∀ l, low = some l → l < a) (h : memAbove (some a) m = true) : memAbove low (memCons a v m) = true := by
  unfold memCons
  by_cases hv : v = unlistedByte
  · cases low with
    | none => simpa [hv] using memAbove_none h
    | some l => simpa [hv] using memAbove_weaken h (Nat.le_of_lt (hlow l rfl))
  · cases low with
    | none => simp [hv, memAbove, h]
    | some l => simp [hv, memAbove, h, hlow l rfl]

/-- A write keeps the canonical form above any bound below the address. -/
theorem memAbove_memPut {low : Option Nat} {m : Memory} {a : Nat} (v : Byte) (h : memAbove low m = true)
    (hlow : ∀ l, low = some l → l < a) : memAbove low (memPut m a v) = true := by
  induction m generalizing low with
  | nil => exact memAbove_memCons hlow rfl
  | cons c rest ih =>
    obtain ⟨k, w⟩ := c
    have hrest : memAbove (some k) rest = true := by
      cases low <;> simp only [memAbove, Bool.and_eq_true] at h <;> exact h.2
    unfold memPut
    by_cases h1 : a < k
    · rw [if_pos h1]
      refine memAbove_memCons hlow ?_
      cases low <;> simp only [memAbove, Bool.and_eq_true, decide_eq_true_eq] at h ⊢ <;> exact ⟨⟨h1, h.1.2⟩, h.2⟩
    · rw [if_neg h1]
      by_cases h2 : a = k
      · rw [if_pos h2]
        exact memAbove_memCons hlow (h2 ▸ hrest)
      · rw [if_neg h2]
        have hput := ih hrest (fun l hl => by cases hl; omega)
        cases low <;> simp only [memAbove, Bool.and_eq_true] at h ⊢ <;> exact ⟨h.1, hput⟩

/-- Every memory operation keeps the canonical form. -/
theorem memPut_wf {m : Memory} (a : Nat) (v : Byte) (h : Memory.wf m = true) : Memory.wf (memPut m a v) = true :=
  memAbove_memPut v h (fun _ hl => by cases hl)

/-- A read after a write gives the value written, and a write leaves every other address alone. -/
theorem memGet_memPut_of_above {low : Option Nat} {m : Memory} (a b : Nat) (v : Byte) (h : memAbove low m = true) :
    memGet (memPut m a v) b = if b = a then v else memGet m b := by
  induction m generalizing low with
  | nil => exact memGet_memCons a b v rfl
  | cons c rest ih =>
    obtain ⟨k, w⟩ := c
    have hrest : memAbove (some k) rest = true := by
      cases low <;> simp only [memAbove, Bool.and_eq_true] at h <;> exact h.2
    unfold memPut
    by_cases h1 : a < k
    · rw [if_pos h1]
      refine memGet_memCons a b v ?_
      simp only [memGet, if_neg (Nat.ne_of_gt h1)]
      exact memGet_of_memAbove hrest (Nat.le_of_lt h1)
    · rw [if_neg h1]
      by_cases h2 : a = k
      · rw [if_pos h2, memGet_memCons a b v (memGet_of_memAbove hrest (Nat.le_of_eq h2))]
        by_cases hb : b = a
        · simp [hb]
        · simp [hb, memGet, h2 ▸ Ne.symm hb]
      · rw [if_neg h2]
        by_cases hk : k = b
        · have : b ≠ a := by omega
          simp [memGet, hk, this]
        · simp only [memGet, if_neg hk]
          exact ih hrest

theorem memGet_memPut {m : Memory} (a b : Nat) (v : Byte) (h : Memory.wf m = true) :
    memGet (memPut m a v) b = if b = a then v else memGet m b :=
  memGet_memPut_of_above a b v h

/-- A write lists no address but its own anew. -/
theorem mem_memPut {m : Memory} {a : Nat} {v : Byte} {c : Host.Cell} (h : c ∈ memPut m a v) : c ∈ m ∨ c.1 = a := by
  have hcons : ∀ {m' : Memory}, c ∈ memCons a v m' → c ∈ m' ∨ c.1 = a := by
    intro m' hc
    unfold memCons at hc
    split at hc
    · exact .inl hc
    · rcases List.mem_cons.1 hc with rfl | hc
      · exact .inr rfl
      · exact .inl hc
  induction m with
  | nil => exact hcons h
  | cons d rest ih =>
    obtain ⟨k, w⟩ := d
    unfold memPut at h
    split at h
    · exact hcons h
    · split at h
      · exact (hcons h).imp_left (List.mem_cons_of_mem _)
      · rcases List.mem_cons.1 h with rfl | h
        · exact .inl List.mem_cons_self
        · exact (ih h).imp_left (List.mem_cons_of_mem _)

/-- The memory of the reset state is canonical. -/
theorem reset_mem_wf (p : Params) : Memory.wf (State.resetWith p).mem = true := rfl

end Sys2Proof.Machine
end

