-- ==== Sys2Proof/Laws/State.lean ====
section
/-! SUPPORT. Laws/State.lean: one lemma per field per update, each true by computation, so that no later proof unfolds a
record update. -/

namespace Sys2Proof.Machine

section

variable (k : MicroCode) (s : State)

@[simp] theorem goto_params : (goto k s).params = s.params := rfl
@[simp] theorem goto_fsm : (goto k s).fsm = k := rfl
@[simp] theorem goto_xcont : (goto k s).xcont = s.xcont := rfl
@[simp] theorem goto_dr : (goto k s).dr = s.dr := rfl
@[simp] theorem goto_cnt : (goto k s).cnt = s.cnt := rfl
@[simp] theorem goto_oif : (goto k s).oif = s.oif := rfl
@[simp] theorem goto_sif : (goto k s).sif = s.sif := rfl
@[simp] theorem goto_pf : (goto k s).pf = s.pf := rfl
@[simp] theorem goto_dc : (goto k s).dc = s.dc := rfl
@[simp] theorem goto_cr : (goto k s).cr = s.cr := rfl
@[simp] theorem goto_portScl : (goto k s).portScl = s.portScl := rfl
@[simp] theorem goto_ddrScl : (goto k s).ddrScl = s.ddrScl := rfl
@[simp] theorem goto_portSda : (goto k s).portSda = s.portSda := rfl
@[simp] theorem goto_ddrSda : (goto k s).ddrSda = s.ddrSda := rfl
@[simp] theorem goto_phase : (goto k s).phase = s.phase := rfl
@[simp] theorem goto_argBuf : (goto k s).argBuf = s.argBuf := rfl
@[simp] theorem goto_argLen : (goto k s).argLen = s.argLen := rfl
@[simp] theorem goto_argAddr : (goto k s).argAddr = s.argAddr := rfl
@[simp] theorem goto_argData : (goto k s).argData = s.argData := rfl
@[simp] theorem goto_bufsel : (goto k s).bufsel = s.bufsel := rfl
@[simp] theorem goto_rem : (goto k s).rem = s.rem := rfl
@[simp] theorem goto_idx : (goto k s).idx = s.idx := rfl
@[simp] theorem goto_xn : (goto k s).xn = s.xn := rfl
@[simp] theorem goto_xret : (goto k s).xret = s.xret := rfl
@[simp] theorem goto_sbit : (goto k s).sbit = s.sbit := rfl
@[simp] theorem goto_tmp0 : (goto k s).tmp0 = s.tmp0 := rfl
@[simp] theorem goto_tmp1 : (goto k s).tmp1 = s.tmp1 := rfl
@[simp] theorem goto_result : (goto k s).result = s.result := rfl
@[simp] theorem goto_busy : (goto k s).busy = s.busy := rfl
@[simp] theorem goto_initDone : (goto k s).initDone = s.initDone := rfl
@[simp] theorem goto_cmd : (goto k s).cmd = s.cmd := rfl
@[simp] theorem goto_mem : (goto k s).mem = s.mem := rfl
@[simp] theorem goto_buslog : (goto k s).buslog = s.buslog := rfl
@[simp] theorem goto_trace : (goto k s).trace = s.trace := rfl
@[simp] theorem goto_refused : (goto k s).refused = s.refused := rfl
@[simp] theorem goto_envScl : (goto k s).envScl = s.envScl := rfl
@[simp] theorem goto_envSda : (goto k s).envSda = s.envSda := rfl
@[simp] theorem goto_draws : (goto k s).draws = s.draws := rfl
@[simp] theorem goto_arrivals : (goto k s).arrivals = s.arrivals := rfl
@[simp] theorem goto_hostReads : (goto k s).hostReads = s.hostReads := rfl

end

section

variable (b : State) (s : State)

@[simp] theorem settle_params : (settle b s).params = s.params := rfl
@[simp] theorem settle_fsm : (settle b s).fsm = s.fsm := rfl
@[simp] theorem settle_xcont : (settle b s).xcont = s.xcont := rfl
@[simp] theorem settle_dr : (settle b s).dr = s.dr := rfl
@[simp] theorem settle_cnt : (settle b s).cnt = s.cnt := rfl
@[simp] theorem settle_oif : (settle b s).oif = s.oif := rfl
@[simp] theorem settle_sif : (settle b s).sif = s.sif := rfl
@[simp] theorem settle_pf : (settle b s).pf = s.pf := rfl
@[simp] theorem settle_dc : (settle b s).dc = s.dc := rfl
@[simp] theorem settle_cr : (settle b s).cr = s.cr := rfl
@[simp] theorem settle_portScl : (settle b s).portScl = s.portScl := rfl
@[simp] theorem settle_ddrScl : (settle b s).ddrScl = s.ddrScl := rfl
@[simp] theorem settle_portSda : (settle b s).portSda = s.portSda := rfl
@[simp] theorem settle_ddrSda : (settle b s).ddrSda = s.ddrSda := rfl
@[simp] theorem settle_phase : (settle b s).phase = s.phase := rfl
@[simp] theorem settle_argBuf : (settle b s).argBuf = s.argBuf := rfl
@[simp] theorem settle_argLen : (settle b s).argLen = s.argLen := rfl
@[simp] theorem settle_argAddr : (settle b s).argAddr = s.argAddr := rfl
@[simp] theorem settle_argData : (settle b s).argData = s.argData := rfl
@[simp] theorem settle_bufsel : (settle b s).bufsel = s.bufsel := rfl
@[simp] theorem settle_rem : (settle b s).rem = s.rem := rfl
@[simp] theorem settle_idx : (settle b s).idx = s.idx := rfl
@[simp] theorem settle_xn : (settle b s).xn = s.xn := rfl
@[simp] theorem settle_xret : (settle b s).xret = s.xret := rfl
@[simp] theorem settle_sbit : (settle b s).sbit = s.sbit := rfl
@[simp] theorem settle_tmp0 : (settle b s).tmp0 = s.tmp0 := rfl
@[simp] theorem settle_tmp1 : (settle b s).tmp1 = s.tmp1 := rfl
@[simp] theorem settle_result : (settle b s).result = s.result := rfl
@[simp] theorem settle_busy : (settle b s).busy = s.busy := rfl
@[simp] theorem settle_initDone : (settle b s).initDone = s.initDone := rfl
@[simp] theorem settle_cmd : (settle b s).cmd = s.cmd := rfl
@[simp] theorem settle_mem : (settle b s).mem = s.mem := rfl
@[simp] theorem settle_buslog : (settle b s).buslog = s.buslog := rfl
@[simp] theorem settle_trace : (settle b s).trace = s.trace ++ outEvents b s := rfl
@[simp] theorem settle_refused : (settle b s).refused = s.refused := rfl
@[simp] theorem settle_envScl : (settle b s).envScl = s.envScl := rfl
@[simp] theorem settle_envSda : (settle b s).envSda = s.envSda := rfl
@[simp] theorem settle_draws : (settle b s).draws = s.draws := rfl
@[simp] theorem settle_arrivals : (settle b s).arrivals = s.arrivals := rfl
@[simp] theorem settle_hostReads : (settle b s).hostReads = s.hostReads := rfl

end

section

variable (v : Byte) (s : State)

@[simp] theorem loadDr_params : (loadDr v s).params = s.params := rfl
@[simp] theorem loadDr_fsm : (loadDr v s).fsm = s.fsm := rfl
@[simp] theorem loadDr_xcont : (loadDr v s).xcont = s.xcont := rfl
@[simp] theorem loadDr_dr : (loadDr v s).dr = v := rfl
@[simp] theorem loadDr_cnt : (loadDr v s).cnt = s.cnt := rfl
@[simp] theorem loadDr_oif : (loadDr v s).oif = s.oif := rfl
@[simp] theorem loadDr_sif : (loadDr v s).sif = s.sif := rfl
@[simp] theorem loadDr_pf : (loadDr v s).pf = s.pf := rfl
@[simp] theorem loadDr_dc : (loadDr v s).dc = s.dc := rfl
@[simp] theorem loadDr_cr : (loadDr v s).cr = s.cr := rfl
@[simp] theorem loadDr_portScl : (loadDr v s).portScl = s.portScl := rfl
@[simp] theorem loadDr_ddrScl : (loadDr v s).ddrScl = s.ddrScl := rfl
@[simp] theorem loadDr_portSda : (loadDr v s).portSda = s.portSda := rfl
@[simp] theorem loadDr_ddrSda : (loadDr v s).ddrSda = s.ddrSda := rfl
@[simp] theorem loadDr_phase : (loadDr v s).phase = s.phase := rfl
@[simp] theorem loadDr_argBuf : (loadDr v s).argBuf = s.argBuf := rfl
@[simp] theorem loadDr_argLen : (loadDr v s).argLen = s.argLen := rfl
@[simp] theorem loadDr_argAddr : (loadDr v s).argAddr = s.argAddr := rfl
@[simp] theorem loadDr_argData : (loadDr v s).argData = s.argData := rfl
@[simp] theorem loadDr_bufsel : (loadDr v s).bufsel = s.bufsel := rfl
@[simp] theorem loadDr_rem : (loadDr v s).rem = s.rem := rfl
@[simp] theorem loadDr_idx : (loadDr v s).idx = s.idx := rfl
@[simp] theorem loadDr_xn : (loadDr v s).xn = s.xn := rfl
@[simp] theorem loadDr_xret : (loadDr v s).xret = s.xret := rfl
@[simp] theorem loadDr_sbit : (loadDr v s).sbit = s.sbit := rfl
@[simp] theorem loadDr_tmp0 : (loadDr v s).tmp0 = s.tmp0 := rfl
@[simp] theorem loadDr_tmp1 : (loadDr v s).tmp1 = s.tmp1 := rfl
@[simp] theorem loadDr_result : (loadDr v s).result = s.result := rfl
@[simp] theorem loadDr_busy : (loadDr v s).busy = s.busy := rfl
@[simp] theorem loadDr_initDone : (loadDr v s).initDone = s.initDone := rfl
@[simp] theorem loadDr_cmd : (loadDr v s).cmd = s.cmd := rfl
@[simp] theorem loadDr_mem : (loadDr v s).mem = s.mem := rfl
@[simp] theorem loadDr_buslog : (loadDr v s).buslog = s.buslog := rfl
@[simp] theorem loadDr_trace : (loadDr v s).trace = s.trace := rfl
@[simp] theorem loadDr_refused : (loadDr v s).refused = s.refused := rfl
@[simp] theorem loadDr_envScl : (loadDr v s).envScl = s.envScl := rfl
@[simp] theorem loadDr_envSda : (loadDr v s).envSda = s.envSda := rfl
@[simp] theorem loadDr_draws : (loadDr v s).draws = s.draws := rfl
@[simp] theorem loadDr_arrivals : (loadDr v s).arrivals = s.arrivals := rfl
@[simp] theorem loadDr_hostReads : (loadDr v s).hostReads = s.hostReads := rfl

end

section

variable (e : BusEvent) (s : State)

@[simp] theorem logBus_params : (logBus e s).params = s.params := rfl
@[simp] theorem logBus_fsm : (logBus e s).fsm = s.fsm := rfl
@[simp] theorem logBus_xcont : (logBus e s).xcont = s.xcont := rfl
@[simp] theorem logBus_dr : (logBus e s).dr = s.dr := rfl
@[simp] theorem logBus_cnt : (logBus e s).cnt = s.cnt := rfl
@[simp] theorem logBus_oif : (logBus e s).oif = s.oif := rfl
@[simp] theorem logBus_sif : (logBus e s).sif = s.sif := rfl
@[simp] theorem logBus_pf : (logBus e s).pf = s.pf := rfl
@[simp] theorem logBus_dc : (logBus e s).dc = s.dc := rfl
@[simp] theorem logBus_cr : (logBus e s).cr = s.cr := rfl
@[simp] theorem logBus_portScl : (logBus e s).portScl = s.portScl := rfl
@[simp] theorem logBus_ddrScl : (logBus e s).ddrScl = s.ddrScl := rfl
@[simp] theorem logBus_portSda : (logBus e s).portSda = s.portSda := rfl
@[simp] theorem logBus_ddrSda : (logBus e s).ddrSda = s.ddrSda := rfl
@[simp] theorem logBus_phase : (logBus e s).phase = s.phase := rfl
@[simp] theorem logBus_argBuf : (logBus e s).argBuf = s.argBuf := rfl
@[simp] theorem logBus_argLen : (logBus e s).argLen = s.argLen := rfl
@[simp] theorem logBus_argAddr : (logBus e s).argAddr = s.argAddr := rfl
@[simp] theorem logBus_argData : (logBus e s).argData = s.argData := rfl
@[simp] theorem logBus_bufsel : (logBus e s).bufsel = s.bufsel := rfl
@[simp] theorem logBus_rem : (logBus e s).rem = s.rem := rfl
@[simp] theorem logBus_idx : (logBus e s).idx = s.idx := rfl
@[simp] theorem logBus_xn : (logBus e s).xn = s.xn := rfl
@[simp] theorem logBus_xret : (logBus e s).xret = s.xret := rfl
@[simp] theorem logBus_sbit : (logBus e s).sbit = s.sbit := rfl
@[simp] theorem logBus_tmp0 : (logBus e s).tmp0 = s.tmp0 := rfl
@[simp] theorem logBus_tmp1 : (logBus e s).tmp1 = s.tmp1 := rfl
@[simp] theorem logBus_result : (logBus e s).result = s.result := rfl
@[simp] theorem logBus_busy : (logBus e s).busy = s.busy := rfl
@[simp] theorem logBus_initDone : (logBus e s).initDone = s.initDone := rfl
@[simp] theorem logBus_cmd : (logBus e s).cmd = s.cmd := rfl
@[simp] theorem logBus_mem : (logBus e s).mem = s.mem := rfl
@[simp] theorem logBus_buslog : (logBus e s).buslog = s.buslog ++ [e] := rfl
@[simp] theorem logBus_trace : (logBus e s).trace = s.trace := rfl
@[simp] theorem logBus_refused : (logBus e s).refused = s.refused := rfl
@[simp] theorem logBus_envScl : (logBus e s).envScl = s.envScl := rfl
@[simp] theorem logBus_envSda : (logBus e s).envSda = s.envSda := rfl
@[simp] theorem logBus_draws : (logBus e s).draws = s.draws := rfl
@[simp] theorem logBus_arrivals : (logBus e s).arrivals = s.arrivals := rfl
@[simp] theorem logBus_hostReads : (logBus e s).hostReads = s.hostReads := rfl

end

section

variable (e : LineEvent) (s : State)

@[simp] theorem traceLine_params : (traceLine e s).params = s.params := rfl
@[simp] theorem traceLine_fsm : (traceLine e s).fsm = s.fsm := rfl
@[simp] theorem traceLine_xcont : (traceLine e s).xcont = s.xcont := rfl
@[simp] theorem traceLine_dr : (traceLine e s).dr = s.dr := rfl
@[simp] theorem traceLine_cnt : (traceLine e s).cnt = s.cnt := rfl
@[simp] theorem traceLine_oif : (traceLine e s).oif = s.oif := rfl
@[simp] theorem traceLine_sif : (traceLine e s).sif = s.sif := rfl
@[simp] theorem traceLine_pf : (traceLine e s).pf = s.pf := rfl
@[simp] theorem traceLine_dc : (traceLine e s).dc = s.dc := rfl
@[simp] theorem traceLine_cr : (traceLine e s).cr = s.cr := rfl
@[simp] theorem traceLine_portScl : (traceLine e s).portScl = s.portScl := rfl
@[simp] theorem traceLine_ddrScl : (traceLine e s).ddrScl = s.ddrScl := rfl
@[simp] theorem traceLine_portSda : (traceLine e s).portSda = s.portSda := rfl
@[simp] theorem traceLine_ddrSda : (traceLine e s).ddrSda = s.ddrSda := rfl
@[simp] theorem traceLine_phase : (traceLine e s).phase = s.phase := rfl
@[simp] theorem traceLine_argBuf : (traceLine e s).argBuf = s.argBuf := rfl
@[simp] theorem traceLine_argLen : (traceLine e s).argLen = s.argLen := rfl
@[simp] theorem traceLine_argAddr : (traceLine e s).argAddr = s.argAddr := rfl
@[simp] theorem traceLine_argData : (traceLine e s).argData = s.argData := rfl
@[simp] theorem traceLine_bufsel : (traceLine e s).bufsel = s.bufsel := rfl
@[simp] theorem traceLine_rem : (traceLine e s).rem = s.rem := rfl
@[simp] theorem traceLine_idx : (traceLine e s).idx = s.idx := rfl
@[simp] theorem traceLine_xn : (traceLine e s).xn = s.xn := rfl
@[simp] theorem traceLine_xret : (traceLine e s).xret = s.xret := rfl
@[simp] theorem traceLine_sbit : (traceLine e s).sbit = s.sbit := rfl
@[simp] theorem traceLine_tmp0 : (traceLine e s).tmp0 = s.tmp0 := rfl
@[simp] theorem traceLine_tmp1 : (traceLine e s).tmp1 = s.tmp1 := rfl
@[simp] theorem traceLine_result : (traceLine e s).result = s.result := rfl
@[simp] theorem traceLine_busy : (traceLine e s).busy = s.busy := rfl
@[simp] theorem traceLine_initDone : (traceLine e s).initDone = s.initDone := rfl
@[simp] theorem traceLine_cmd : (traceLine e s).cmd = s.cmd := rfl
@[simp] theorem traceLine_mem : (traceLine e s).mem = s.mem := rfl
@[simp] theorem traceLine_buslog : (traceLine e s).buslog = s.buslog := rfl
@[simp] theorem traceLine_trace : (traceLine e s).trace = s.trace ++ [e] := rfl
@[simp] theorem traceLine_refused : (traceLine e s).refused = s.refused := rfl
@[simp] theorem traceLine_envScl : (traceLine e s).envScl = s.envScl := rfl
@[simp] theorem traceLine_envSda : (traceLine e s).envSda = s.envSda := rfl
@[simp] theorem traceLine_draws : (traceLine e s).draws = s.draws := rfl
@[simp] theorem traceLine_arrivals : (traceLine e s).arrivals = s.arrivals := rfl
@[simp] theorem traceLine_hostReads : (traceLine e s).hostReads = s.hostReads := rfl

end

section

variable (n : BitVec 4) (k : MicroCode) (s : State)

@[simp] theorem callXfer_params : (callXfer n k s).params = s.params := rfl
@[simp] theorem callXfer_fsm : (callXfer n k s).fsm = s.fsm := rfl
@[simp] theorem callXfer_xcont : (callXfer n k s).xcont = k := rfl
@[simp] theorem callXfer_dr : (callXfer n k s).dr = s.dr := rfl
@[simp] theorem callXfer_cnt : (callXfer n k s).cnt = s.cnt := rfl
@[simp] theorem callXfer_oif : (callXfer n k s).oif = s.oif := rfl
@[simp] theorem callXfer_sif : (callXfer n k s).sif = s.sif := rfl
@[simp] theorem callXfer_pf : (callXfer n k s).pf = s.pf := rfl
@[simp] theorem callXfer_dc : (callXfer n k s).dc = s.dc := rfl
@[simp] theorem callXfer_cr : (callXfer n k s).cr = s.cr := rfl
@[simp] theorem callXfer_portScl : (callXfer n k s).portScl = s.portScl := rfl
@[simp] theorem callXfer_ddrScl : (callXfer n k s).ddrScl = s.ddrScl := rfl
@[simp] theorem callXfer_portSda : (callXfer n k s).portSda = s.portSda := rfl
@[simp] theorem callXfer_ddrSda : (callXfer n k s).ddrSda = s.ddrSda := rfl
@[simp] theorem callXfer_phase : (callXfer n k s).phase = s.phase := rfl
@[simp] theorem callXfer_argBuf : (callXfer n k s).argBuf = s.argBuf := rfl
@[simp] theorem callXfer_argLen : (callXfer n k s).argLen = s.argLen := rfl
@[simp] theorem callXfer_argAddr : (callXfer n k s).argAddr = s.argAddr := rfl
@[simp] theorem callXfer_argData : (callXfer n k s).argData = s.argData := rfl
@[simp] theorem callXfer_bufsel : (callXfer n k s).bufsel = s.bufsel := rfl
@[simp] theorem callXfer_rem : (callXfer n k s).rem = s.rem := rfl
@[simp] theorem callXfer_idx : (callXfer n k s).idx = s.idx := rfl
@[simp] theorem callXfer_xn : (callXfer n k s).xn = n := rfl
@[simp] theorem callXfer_xret : (callXfer n k s).xret = s.xret := rfl
@[simp] theorem callXfer_sbit : (callXfer n k s).sbit = s.sbit := rfl
@[simp] theorem callXfer_tmp0 : (callXfer n k s).tmp0 = s.tmp0 := rfl
@[simp] theorem callXfer_tmp1 : (callXfer n k s).tmp1 = s.tmp1 := rfl
@[simp] theorem callXfer_result : (callXfer n k s).result = s.result := rfl
@[simp] theorem callXfer_busy : (callXfer n k s).busy = s.busy := rfl
@[simp] theorem callXfer_initDone : (callXfer n k s).initDone = s.initDone := rfl
@[simp] theorem callXfer_cmd : (callXfer n k s).cmd = s.cmd := rfl
@[simp] theorem callXfer_mem : (callXfer n k s).mem = s.mem := rfl
@[simp] theorem callXfer_buslog : (callXfer n k s).buslog = s.buslog := rfl
@[simp] theorem callXfer_trace : (callXfer n k s).trace = s.trace := rfl
@[simp] theorem callXfer_refused : (callXfer n k s).refused = s.refused := rfl
@[simp] theorem callXfer_envScl : (callXfer n k s).envScl = s.envScl := rfl
@[simp] theorem callXfer_envSda : (callXfer n k s).envSda = s.envSda := rfl
@[simp] theorem callXfer_draws : (callXfer n k s).draws = s.draws := rfl
@[simp] theorem callXfer_arrivals : (callXfer n k s).arrivals = s.arrivals := rfl
@[simp] theorem callXfer_hostReads : (callXfer n k s).hostReads = s.hostReads := rfl

end

section

variable (s : State)

@[simp] theorem takeScl_params : (takeScl s).params = s.params := rfl
@[simp] theorem takeScl_fsm : (takeScl s).fsm = s.fsm := rfl
@[simp] theorem takeScl_xcont : (takeScl s).xcont = s.xcont := rfl
@[simp] theorem takeScl_dr : (takeScl s).dr = s.dr := rfl
@[simp] theorem takeScl_cnt : (takeScl s).cnt = s.cnt := rfl
@[simp] theorem takeScl_oif : (takeScl s).oif = s.oif := rfl
@[simp] theorem takeScl_sif : (takeScl s).sif = s.sif := rfl
@[simp] theorem takeScl_pf : (takeScl s).pf = s.pf := rfl
@[simp] theorem takeScl_dc : (takeScl s).dc = s.dc := rfl
@[simp] theorem takeScl_cr : (takeScl s).cr = s.cr := rfl
@[simp] theorem takeScl_portScl : (takeScl s).portScl = s.portScl := rfl
@[simp] theorem takeScl_ddrScl : (takeScl s).ddrScl = s.ddrScl := rfl
@[simp] theorem takeScl_portSda : (takeScl s).portSda = s.portSda := rfl
@[simp] theorem takeScl_ddrSda : (takeScl s).ddrSda = s.ddrSda := rfl
@[simp] theorem takeScl_phase : (takeScl s).phase = s.phase := rfl
@[simp] theorem takeScl_argBuf : (takeScl s).argBuf = s.argBuf := rfl
@[simp] theorem takeScl_argLen : (takeScl s).argLen = s.argLen := rfl
@[simp] theorem takeScl_argAddr : (takeScl s).argAddr = s.argAddr := rfl
@[simp] theorem takeScl_argData : (takeScl s).argData = s.argData := rfl
@[simp] theorem takeScl_bufsel : (takeScl s).bufsel = s.bufsel := rfl
@[simp] theorem takeScl_rem : (takeScl s).rem = s.rem := rfl
@[simp] theorem takeScl_idx : (takeScl s).idx = s.idx := rfl
@[simp] theorem takeScl_xn : (takeScl s).xn = s.xn := rfl
@[simp] theorem takeScl_xret : (takeScl s).xret = s.xret := rfl
@[simp] theorem takeScl_sbit : (takeScl s).sbit = s.sbit := rfl
@[simp] theorem takeScl_tmp0 : (takeScl s).tmp0 = s.tmp0 := rfl
@[simp] theorem takeScl_tmp1 : (takeScl s).tmp1 = s.tmp1 := rfl
@[simp] theorem takeScl_result : (takeScl s).result = s.result := rfl
@[simp] theorem takeScl_busy : (takeScl s).busy = s.busy := rfl
@[simp] theorem takeScl_initDone : (takeScl s).initDone = s.initDone := rfl
@[simp] theorem takeScl_cmd : (takeScl s).cmd = s.cmd := rfl
@[simp] theorem takeScl_mem : (takeScl s).mem = s.mem := rfl
@[simp] theorem takeScl_buslog : (takeScl s).buslog = s.buslog := rfl
@[simp] theorem takeScl_trace : (takeScl s).trace = s.trace := rfl
@[simp] theorem takeScl_refused : (takeScl s).refused = s.refused := rfl
@[simp] theorem takeScl_envScl : (takeScl s).envScl = s.envScl.tail := rfl
@[simp] theorem takeScl_envSda : (takeScl s).envSda = s.envSda := rfl
@[simp] theorem takeScl_draws : (takeScl s).draws = if s.envScl.isEmpty then s.draws + 1 else s.draws := rfl
@[simp] theorem takeScl_arrivals : (takeScl s).arrivals = s.arrivals := rfl
@[simp] theorem takeScl_hostReads : (takeScl s).hostReads = s.hostReads := rfl

end

section

variable (s : State)

@[simp] theorem takeSda_params : (takeSda s).params = s.params := rfl
@[simp] theorem takeSda_fsm : (takeSda s).fsm = s.fsm := rfl
@[simp] theorem takeSda_xcont : (takeSda s).xcont = s.xcont := rfl
@[simp] theorem takeSda_dr : (takeSda s).dr = s.dr := rfl
@[simp] theorem takeSda_cnt : (takeSda s).cnt = s.cnt := rfl
@[simp] theorem takeSda_oif : (takeSda s).oif = s.oif := rfl
@[simp] theorem takeSda_sif : (takeSda s).sif = s.sif := rfl
@[simp] theorem takeSda_pf : (takeSda s).pf = s.pf := rfl
@[simp] theorem takeSda_dc : (takeSda s).dc = s.dc := rfl
@[simp] theorem takeSda_cr : (takeSda s).cr = s.cr := rfl
@[simp] theorem takeSda_portScl : (takeSda s).portScl = s.portScl := rfl
@[simp] theorem takeSda_ddrScl : (takeSda s).ddrScl = s.ddrScl := rfl
@[simp] theorem takeSda_portSda : (takeSda s).portSda = s.portSda := rfl
@[simp] theorem takeSda_ddrSda : (takeSda s).ddrSda = s.ddrSda := rfl
@[simp] theorem takeSda_phase : (takeSda s).phase = s.phase := rfl
@[simp] theorem takeSda_argBuf : (takeSda s).argBuf = s.argBuf := rfl
@[simp] theorem takeSda_argLen : (takeSda s).argLen = s.argLen := rfl
@[simp] theorem takeSda_argAddr : (takeSda s).argAddr = s.argAddr := rfl
@[simp] theorem takeSda_argData : (takeSda s).argData = s.argData := rfl
@[simp] theorem takeSda_bufsel : (takeSda s).bufsel = s.bufsel := rfl
@[simp] theorem takeSda_rem : (takeSda s).rem = s.rem := rfl
@[simp] theorem takeSda_idx : (takeSda s).idx = s.idx := rfl
@[simp] theorem takeSda_xn : (takeSda s).xn = s.xn := rfl
@[simp] theorem takeSda_xret : (takeSda s).xret = s.xret := rfl
@[simp] theorem takeSda_sbit : (takeSda s).sbit = s.sbit := rfl
@[simp] theorem takeSda_tmp0 : (takeSda s).tmp0 = s.tmp0 := rfl
@[simp] theorem takeSda_tmp1 : (takeSda s).tmp1 = s.tmp1 := rfl
@[simp] theorem takeSda_result : (takeSda s).result = s.result := rfl
@[simp] theorem takeSda_busy : (takeSda s).busy = s.busy := rfl
@[simp] theorem takeSda_initDone : (takeSda s).initDone = s.initDone := rfl
@[simp] theorem takeSda_cmd : (takeSda s).cmd = s.cmd := rfl
@[simp] theorem takeSda_mem : (takeSda s).mem = s.mem := rfl
@[simp] theorem takeSda_buslog : (takeSda s).buslog = s.buslog := rfl
@[simp] theorem takeSda_trace : (takeSda s).trace = s.trace := rfl
@[simp] theorem takeSda_refused : (takeSda s).refused = s.refused := rfl
@[simp] theorem takeSda_envScl : (takeSda s).envScl = s.envScl := rfl
@[simp] theorem takeSda_envSda : (takeSda s).envSda = s.envSda.tail := rfl
@[simp] theorem takeSda_draws : (takeSda s).draws = if s.envSda.isEmpty then s.draws + 1 else s.draws := rfl
@[simp] theorem takeSda_arrivals : (takeSda s).arrivals = s.arrivals := rfl
@[simp] theorem takeSda_hostReads : (takeSda s).hostReads = s.hostReads := rfl

end

section

variable (v : Byte) (s : State)

@[simp] theorem writeSr_params : (writeSr v s).params = s.params := rfl
@[simp] theorem writeSr_fsm : (writeSr v s).fsm = s.fsm := rfl
@[simp] theorem writeSr_xcont : (writeSr v s).xcont = s.xcont := rfl
@[simp] theorem writeSr_dr : (writeSr v s).dr = s.dr := rfl
@[simp] theorem writeSr_cnt : (writeSr v s).cnt = v.extractLsb' 0 4 := rfl
@[simp] theorem writeSr_oif : (writeSr v s).oif = (s.oif && !v.getLsbD 6) := rfl
@[simp] theorem writeSr_sif : (writeSr v s).sif = (s.sif && !v.getLsbD 7) := rfl
@[simp] theorem writeSr_pf : (writeSr v s).pf = (s.pf && !v.getLsbD 5) := rfl
@[simp] theorem writeSr_dc : (writeSr v s).dc = s.dc := rfl
@[simp] theorem writeSr_cr : (writeSr v s).cr = s.cr := rfl
@[simp] theorem writeSr_portScl : (writeSr v s).portScl = s.portScl := rfl
@[simp] theorem writeSr_ddrScl : (writeSr v s).ddrScl = s.ddrScl := rfl
@[simp] theorem writeSr_portSda : (writeSr v s).portSda = s.portSda := rfl
@[simp] theorem writeSr_ddrSda : (writeSr v s).ddrSda = s.ddrSda := rfl
@[simp] theorem writeSr_phase : (writeSr v s).phase = s.phase := rfl
@[simp] theorem writeSr_argBuf : (writeSr v s).argBuf = s.argBuf := rfl
@[simp] theorem writeSr_argLen : (writeSr v s).argLen = s.argLen := rfl
@[simp] theorem writeSr_argAddr : (writeSr v s).argAddr = s.argAddr := rfl
@[simp] theorem writeSr_argData : (writeSr v s).argData = s.argData := rfl
@[simp] theorem writeSr_bufsel : (writeSr v s).bufsel = s.bufsel := rfl
@[simp] theorem writeSr_rem : (writeSr v s).rem = s.rem := rfl
@[simp] theorem writeSr_idx : (writeSr v s).idx = s.idx := rfl
@[simp] theorem writeSr_xn : (writeSr v s).xn = s.xn := rfl
@[simp] theorem writeSr_xret : (writeSr v s).xret = s.xret := rfl
@[simp] theorem writeSr_sbit : (writeSr v s).sbit = s.sbit := rfl
@[simp] theorem writeSr_tmp0 : (writeSr v s).tmp0 = s.tmp0 := rfl
@[simp] theorem writeSr_tmp1 : (writeSr v s).tmp1 = s.tmp1 := rfl
@[simp] theorem writeSr_result : (writeSr v s).result = s.result := rfl
@[simp] theorem writeSr_busy : (writeSr v s).busy = s.busy := rfl
@[simp] theorem writeSr_initDone : (writeSr v s).initDone = s.initDone := rfl
@[simp] theorem writeSr_cmd : (writeSr v s).cmd = s.cmd := rfl
@[simp] theorem writeSr_mem : (writeSr v s).mem = s.mem := rfl
@[simp] theorem writeSr_buslog : (writeSr v s).buslog = s.buslog := rfl
@[simp] theorem writeSr_trace : (writeSr v s).trace = s.trace := rfl
@[simp] theorem writeSr_refused : (writeSr v s).refused = s.refused := rfl
@[simp] theorem writeSr_envScl : (writeSr v s).envScl = s.envScl := rfl
@[simp] theorem writeSr_envSda : (writeSr v s).envSda = s.envSda := rfl
@[simp] theorem writeSr_draws : (writeSr v s).draws = s.draws := rfl
@[simp] theorem writeSr_arrivals : (writeSr v s).arrivals = s.arrivals := rfl
@[simp] theorem writeSr_hostReads : (writeSr v s).hostReads = s.hostReads := rfl

end

section

variable (s : State)

@[simp] theorem strobe_params : (strobe s).params = s.params := rfl
@[simp] theorem strobe_fsm : (strobe s).fsm = s.fsm := rfl
@[simp] theorem strobe_xcont : (strobe s).xcont = s.xcont := rfl
@[simp] theorem strobe_dr : (strobe s).dr = s.dr := rfl
@[simp] theorem strobe_cnt : (strobe s).cnt = s.cnt + 1 := rfl
@[simp] theorem strobe_oif : (strobe s).oif = (s.oif || s.cnt == 15) := rfl
@[simp] theorem strobe_sif : (strobe s).sif = s.sif := rfl
@[simp] theorem strobe_pf : (strobe s).pf = s.pf := rfl
@[simp] theorem strobe_dc : (strobe s).dc = s.dc := rfl
@[simp] theorem strobe_cr : (strobe s).cr = 0x2A := rfl
@[simp] theorem strobe_portScl : (strobe s).portScl = !s.portScl := rfl
@[simp] theorem strobe_ddrScl : (strobe s).ddrScl = s.ddrScl := rfl
@[simp] theorem strobe_portSda : (strobe s).portSda = s.portSda := rfl
@[simp] theorem strobe_ddrSda : (strobe s).ddrSda = s.ddrSda := rfl
@[simp] theorem strobe_phase : (strobe s).phase = s.phase := rfl
@[simp] theorem strobe_argBuf : (strobe s).argBuf = s.argBuf := rfl
@[simp] theorem strobe_argLen : (strobe s).argLen = s.argLen := rfl
@[simp] theorem strobe_argAddr : (strobe s).argAddr = s.argAddr := rfl
@[simp] theorem strobe_argData : (strobe s).argData = s.argData := rfl
@[simp] theorem strobe_bufsel : (strobe s).bufsel = s.bufsel := rfl
@[simp] theorem strobe_rem : (strobe s).rem = s.rem := rfl
@[simp] theorem strobe_idx : (strobe s).idx = s.idx := rfl
@[simp] theorem strobe_xn : (strobe s).xn = s.xn := rfl
@[simp] theorem strobe_xret : (strobe s).xret = s.xret := rfl
@[simp] theorem strobe_sbit : (strobe s).sbit = s.sbit := rfl
@[simp] theorem strobe_tmp0 : (strobe s).tmp0 = s.tmp0 := rfl
@[simp] theorem strobe_tmp1 : (strobe s).tmp1 = s.tmp1 := rfl
@[simp] theorem strobe_result : (strobe s).result = s.result := rfl
@[simp] theorem strobe_busy : (strobe s).busy = s.busy := rfl
@[simp] theorem strobe_initDone : (strobe s).initDone = s.initDone := rfl
@[simp] theorem strobe_cmd : (strobe s).cmd = s.cmd := rfl
@[simp] theorem strobe_mem : (strobe s).mem = s.mem := rfl
@[simp] theorem strobe_buslog : (strobe s).buslog = s.buslog := rfl
@[simp] theorem strobe_trace : (strobe s).trace = s.trace := rfl
@[simp] theorem strobe_refused : (strobe s).refused = s.refused := rfl
@[simp] theorem strobe_envScl : (strobe s).envScl = s.envScl := rfl
@[simp] theorem strobe_envSda : (strobe s).envSda = s.envSda := rfl
@[simp] theorem strobe_draws : (strobe s).draws = s.draws := rfl
@[simp] theorem strobe_arrivals : (strobe s).arrivals = s.arrivals := rfl
@[simp] theorem strobe_hostReads : (strobe s).hostReads = s.hostReads := rfl

end

section

variable (s : State)

@[simp] theorem accept_params : (accept s).params = s.params := rfl
@[simp] theorem accept_fsm : (accept s).fsm = s.fsm := rfl
@[simp] theorem accept_xcont : (accept s).xcont = s.xcont := rfl
@[simp] theorem accept_dr : (accept s).dr = s.dr := rfl
@[simp] theorem accept_cnt : (accept s).cnt = s.cnt := rfl
@[simp] theorem accept_oif : (accept s).oif = s.oif := rfl
@[simp] theorem accept_sif : (accept s).sif = s.sif := rfl
@[simp] theorem accept_pf : (accept s).pf = s.pf := rfl
@[simp] theorem accept_dc : (accept s).dc = s.dc := rfl
@[simp] theorem accept_cr : (accept s).cr = s.cr := rfl
@[simp] theorem accept_portScl : (accept s).portScl = s.portScl := rfl
@[simp] theorem accept_ddrScl : (accept s).ddrScl = s.ddrScl := rfl
@[simp] theorem accept_portSda : (accept s).portSda = s.portSda := rfl
@[simp] theorem accept_ddrSda : (accept s).ddrSda = s.ddrSda := rfl
@[simp] theorem accept_phase : (accept s).phase = s.phase := rfl
@[simp] theorem accept_argBuf : (accept s).argBuf = s.argBuf := rfl
@[simp] theorem accept_argLen : (accept s).argLen = s.argLen := rfl
@[simp] theorem accept_argAddr : (accept s).argAddr = s.argAddr := rfl
@[simp] theorem accept_argData : (accept s).argData = s.argData := rfl
@[simp] theorem accept_bufsel : (accept s).bufsel = s.bufsel := rfl
@[simp] theorem accept_rem : (accept s).rem = s.rem := rfl
@[simp] theorem accept_idx : (accept s).idx = s.idx := rfl
@[simp] theorem accept_xn : (accept s).xn = s.xn := rfl
@[simp] theorem accept_xret : (accept s).xret = s.xret := rfl
@[simp] theorem accept_sbit : (accept s).sbit = s.sbit := rfl
@[simp] theorem accept_tmp0 : (accept s).tmp0 = s.tmp0 := rfl
@[simp] theorem accept_tmp1 : (accept s).tmp1 = s.tmp1 := rfl
@[simp] theorem accept_result : (accept s).result = s.result := rfl
@[simp] theorem accept_busy : (accept s).busy = true := rfl
@[simp] theorem accept_initDone : (accept s).initDone = s.initDone := rfl
@[simp] theorem accept_cmd : (accept s).cmd = none := rfl
@[simp] theorem accept_mem : (accept s).mem = s.mem := rfl
@[simp] theorem accept_buslog : (accept s).buslog = s.buslog := rfl
@[simp] theorem accept_trace : (accept s).trace = s.trace := rfl
@[simp] theorem accept_refused : (accept s).refused = s.refused := rfl
@[simp] theorem accept_envScl : (accept s).envScl = s.envScl := rfl
@[simp] theorem accept_envSda : (accept s).envSda = s.envSda := rfl
@[simp] theorem accept_draws : (accept s).draws = s.draws := rfl
@[simp] theorem accept_arrivals : (accept s).arrivals = s.arrivals := rfl
@[simp] theorem accept_hostReads : (accept s).hostReads = s.hostReads := rfl

end

section

variable (r : Bool) (s : State)

@[simp] theorem complete_params : (complete r s).params = s.params := rfl
@[simp] theorem complete_fsm : (complete r s).fsm = s.fsm := rfl
@[simp] theorem complete_xcont : (complete r s).xcont = s.xcont := rfl
@[simp] theorem complete_dr : (complete r s).dr = s.dr := rfl
@[simp] theorem complete_cnt : (complete r s).cnt = s.cnt := rfl
@[simp] theorem complete_oif : (complete r s).oif = s.oif := rfl
@[simp] theorem complete_sif : (complete r s).sif = s.sif := rfl
@[simp] theorem complete_pf : (complete r s).pf = s.pf := rfl
@[simp] theorem complete_dc : (complete r s).dc = s.dc := rfl
@[simp] theorem complete_cr : (complete r s).cr = s.cr := rfl
@[simp] theorem complete_portScl : (complete r s).portScl = s.portScl := rfl
@[simp] theorem complete_ddrScl : (complete r s).ddrScl = s.ddrScl := rfl
@[simp] theorem complete_portSda : (complete r s).portSda = s.portSda := rfl
@[simp] theorem complete_ddrSda : (complete r s).ddrSda = s.ddrSda := rfl
@[simp] theorem complete_phase : (complete r s).phase = s.phase := rfl
@[simp] theorem complete_argBuf : (complete r s).argBuf = s.argBuf := rfl
@[simp] theorem complete_argLen : (complete r s).argLen = s.argLen := rfl
@[simp] theorem complete_argAddr : (complete r s).argAddr = s.argAddr := rfl
@[simp] theorem complete_argData : (complete r s).argData = s.argData := rfl
@[simp] theorem complete_bufsel : (complete r s).bufsel = s.bufsel := rfl
@[simp] theorem complete_rem : (complete r s).rem = s.rem := rfl
@[simp] theorem complete_idx : (complete r s).idx = s.idx := rfl
@[simp] theorem complete_xn : (complete r s).xn = s.xn := rfl
@[simp] theorem complete_xret : (complete r s).xret = s.xret := rfl
@[simp] theorem complete_sbit : (complete r s).sbit = s.sbit := rfl
@[simp] theorem complete_tmp0 : (complete r s).tmp0 = s.tmp0 := rfl
@[simp] theorem complete_tmp1 : (complete r s).tmp1 = s.tmp1 := rfl
@[simp] theorem complete_result : (complete r s).result = r := rfl
@[simp] theorem complete_busy : (complete r s).busy = false := rfl
@[simp] theorem complete_initDone : (complete r s).initDone = s.initDone := rfl
@[simp] theorem complete_cmd : (complete r s).cmd = s.cmd := rfl
@[simp] theorem complete_mem : (complete r s).mem = s.mem := rfl
@[simp] theorem complete_buslog : (complete r s).buslog = s.buslog := rfl
@[simp] theorem complete_trace : (complete r s).trace = s.trace := rfl
@[simp] theorem complete_refused : (complete r s).refused = s.refused := rfl
@[simp] theorem complete_envScl : (complete r s).envScl = s.envScl := rfl
@[simp] theorem complete_envSda : (complete r s).envSda = s.envSda := rfl
@[simp] theorem complete_draws : (complete r s).draws = s.draws := rfl
@[simp] theorem complete_arrivals : (complete r s).arrivals = s.arrivals := rfl
@[simp] theorem complete_hostReads : (complete r s).hostReads = s.hostReads := rfl

end

section

variable (l : Line) (b : Bool) (s : State)

@[simp] theorem setPort_params : (setPort l b s).params = s.params := by cases l <;> rfl
@[simp] theorem setPort_fsm : (setPort l b s).fsm = s.fsm := by cases l <;> rfl
@[simp] theorem setPort_xcont : (setPort l b s).xcont = s.xcont := by cases l <;> rfl
@[simp] theorem setPort_dr : (setPort l b s).dr = s.dr := by cases l <;> rfl
@[simp] theorem setPort_cnt : (setPort l b s).cnt = s.cnt := by cases l <;> rfl
@[simp] theorem setPort_oif : (setPort l b s).oif = s.oif := by cases l <;> rfl
@[simp] theorem setPort_sif : (setPort l b s).sif = s.sif := by cases l <;> rfl
@[simp] theorem setPort_pf : (setPort l b s).pf = s.pf := by cases l <;> rfl
@[simp] theorem setPort_dc : (setPort l b s).dc = s.dc := by cases l <;> rfl
@[simp] theorem setPort_cr : (setPort l b s).cr = s.cr := by cases l <;> rfl
@[simp] theorem setPort_scl_portScl : (setPort .scl b s).portScl = b := rfl
@[simp] theorem setPort_sda_portScl : (setPort .sda b s).portScl = s.portScl := rfl
@[simp] theorem setPort_ddrScl : (setPort l b s).ddrScl = s.ddrScl := by cases l <;> rfl
@[simp] theorem setPort_sda_portSda : (setPort .sda b s).portSda = b := rfl
@[simp] theorem setPort_scl_portSda : (setPort .scl b s).portSda = s.portSda := rfl
@[simp] theorem setPort_ddrSda : (setPort l b s).ddrSda = s.ddrSda := by cases l <;> rfl
@[simp] theorem setPort_phase : (setPort l b s).phase = s.phase := by cases l <;> rfl
@[simp] theorem setPort_argBuf : (setPort l b s).argBuf = s.argBuf := by cases l <;> rfl
@[simp] theorem setPort_argLen : (setPort l b s).argLen = s.argLen := by cases l <;> rfl
@[simp] theorem setPort_argAddr : (setPort l b s).argAddr = s.argAddr := by cases l <;> rfl
@[simp] theorem setPort_argData : (setPort l b s).argData = s.argData := by cases l <;> rfl
@[simp] theorem setPort_bufsel : (setPort l b s).bufsel = s.bufsel := by cases l <;> rfl
@[simp] theorem setPort_rem : (setPort l b s).rem = s.rem := by cases l <;> rfl
@[simp] theorem setPort_idx : (setPort l b s).idx = s.idx := by cases l <;> rfl
@[simp] theorem setPort_xn : (setPort l b s).xn = s.xn := by cases l <;> rfl
@[simp] theorem setPort_xret : (setPort l b s).xret = s.xret := by cases l <;> rfl
@[simp] theorem setPort_sbit : (setPort l b s).sbit = s.sbit := by cases l <;> rfl
@[simp] theorem setPort_tmp0 : (setPort l b s).tmp0 = s.tmp0 := by cases l <;> rfl
@[simp] theorem setPort_tmp1 : (setPort l b s).tmp1 = s.tmp1 := by cases l <;> rfl
@[simp] theorem setPort_result : (setPort l b s).result = s.result := by cases l <;> rfl
@[simp] theorem setPort_busy : (setPort l b s).busy = s.busy := by cases l <;> rfl
@[simp] theorem setPort_initDone : (setPort l b s).initDone = s.initDone := by cases l <;> rfl
@[simp] theorem setPort_cmd : (setPort l b s).cmd = s.cmd := by cases l <;> rfl
@[simp] theorem setPort_mem : (setPort l b s).mem = s.mem := by cases l <;> rfl
@[simp] theorem setPort_buslog : (setPort l b s).buslog = s.buslog := by cases l <;> rfl
@[simp] theorem setPort_trace : (setPort l b s).trace = s.trace := by cases l <;> rfl
@[simp] theorem setPort_refused : (setPort l b s).refused = s.refused := by cases l <;> rfl
@[simp] theorem setPort_envScl : (setPort l b s).envScl = s.envScl := by cases l <;> rfl
@[simp] theorem setPort_envSda : (setPort l b s).envSda = s.envSda := by cases l <;> rfl
@[simp] theorem setPort_draws : (setPort l b s).draws = s.draws := by cases l <;> rfl
@[simp] theorem setPort_arrivals : (setPort l b s).arrivals = s.arrivals := by cases l <;> rfl
@[simp] theorem setPort_hostReads : (setPort l b s).hostReads = s.hostReads := by cases l <;> rfl

end

section

variable (l : Line) (b : Bool) (s : State)

@[simp] theorem setDdr_params : (setDdr l b s).params = s.params := by cases l <;> rfl
@[simp] theorem setDdr_fsm : (setDdr l b s).fsm = s.fsm := by cases l <;> rfl
@[simp] theorem setDdr_xcont : (setDdr l b s).xcont = s.xcont := by cases l <;> rfl
@[simp] theorem setDdr_dr : (setDdr l b s).dr = s.dr := by cases l <;> rfl
@[simp] theorem setDdr_cnt : (setDdr l b s).cnt = s.cnt := by cases l <;> rfl
@[simp] theorem setDdr_oif : (setDdr l b s).oif = s.oif := by cases l <;> rfl
@[simp] theorem setDdr_sif : (setDdr l b s).sif = s.sif := by cases l <;> rfl
@[simp] theorem setDdr_pf : (setDdr l b s).pf = s.pf := by cases l <;> rfl
@[simp] theorem setDdr_dc : (setDdr l b s).dc = s.dc := by cases l <;> rfl
@[simp] theorem setDdr_cr : (setDdr l b s).cr = s.cr := by cases l <;> rfl
@[simp] theorem setDdr_portScl : (setDdr l b s).portScl = s.portScl := by cases l <;> rfl
@[simp] theorem setDdr_scl_ddrScl : (setDdr .scl b s).ddrScl = b := rfl
@[simp] theorem setDdr_sda_ddrScl : (setDdr .sda b s).ddrScl = s.ddrScl := rfl
@[simp] theorem setDdr_portSda : (setDdr l b s).portSda = s.portSda := by cases l <;> rfl
@[simp] theorem setDdr_sda_ddrSda : (setDdr .sda b s).ddrSda = b := rfl
@[simp] theorem setDdr_scl_ddrSda : (setDdr .scl b s).ddrSda = s.ddrSda := rfl
@[simp] theorem setDdr_phase : (setDdr l b s).phase = s.phase := by cases l <;> rfl
@[simp] theorem setDdr_argBuf : (setDdr l b s).argBuf = s.argBuf := by cases l <;> rfl
@[simp] theorem setDdr_argLen : (setDdr l b s).argLen = s.argLen := by cases l <;> rfl
@[simp] theorem setDdr_argAddr : (setDdr l b s).argAddr = s.argAddr := by cases l <;> rfl
@[simp] theorem setDdr_argData : (setDdr l b s).argData = s.argData := by cases l <;> rfl
@[simp] theorem setDdr_bufsel : (setDdr l b s).bufsel = s.bufsel := by cases l <;> rfl
@[simp] theorem setDdr_rem : (setDdr l b s).rem = s.rem := by cases l <;> rfl
@[simp] theorem setDdr_idx : (setDdr l b s).idx = s.idx := by cases l <;> rfl
@[simp] theorem setDdr_xn : (setDdr l b s).xn = s.xn := by cases l <;> rfl
@[simp] theorem setDdr_xret : (setDdr l b s).xret = s.xret := by cases l <;> rfl
@[simp] theorem setDdr_sbit : (setDdr l b s).sbit = s.sbit := by cases l <;> rfl
@[simp] theorem setDdr_tmp0 : (setDdr l b s).tmp0 = s.tmp0 := by cases l <;> rfl
@[simp] theorem setDdr_tmp1 : (setDdr l b s).tmp1 = s.tmp1 := by cases l <;> rfl
@[simp] theorem setDdr_result : (setDdr l b s).result = s.result := by cases l <;> rfl
@[simp] theorem setDdr_busy : (setDdr l b s).busy = s.busy := by cases l <;> rfl
@[simp] theorem setDdr_initDone : (setDdr l b s).initDone = s.initDone := by cases l <;> rfl
@[simp] theorem setDdr_cmd : (setDdr l b s).cmd = s.cmd := by cases l <;> rfl
@[simp] theorem setDdr_mem : (setDdr l b s).mem = s.mem := by cases l <;> rfl
@[simp] theorem setDdr_buslog : (setDdr l b s).buslog = s.buslog := by cases l <;> rfl
@[simp] theorem setDdr_trace : (setDdr l b s).trace = s.trace := by cases l <;> rfl
@[simp] theorem setDdr_refused : (setDdr l b s).refused = s.refused := by cases l <;> rfl
@[simp] theorem setDdr_envScl : (setDdr l b s).envScl = s.envScl := by cases l <;> rfl
@[simp] theorem setDdr_envSda : (setDdr l b s).envSda = s.envSda := by cases l <;> rfl
@[simp] theorem setDdr_draws : (setDdr l b s).draws = s.draws := by cases l <;> rfl
@[simp] theorem setDdr_arrivals : (setDdr l b s).arrivals = s.arrivals := by cases l <;> rfl
@[simp] theorem setDdr_hostReads : (setDdr l b s).hostReads = s.hostReads := by cases l <;> rfl

end

/-! The derived line operations as record updates. -/

theorem driveHigh_scl (s : State) : driveHigh .scl s = { s with ddrScl := true, portScl := true } := rfl
theorem driveHigh_sda (s : State) : driveHigh .sda s = { s with ddrSda := true, portSda := true } := rfl
theorem driveLow_scl (s : State) : driveLow .scl s = { s with ddrScl := true, portScl := false } := rfl
theorem driveLow_sda (s : State) : driveLow .sda s = { s with ddrSda := true, portSda := false } := rfl
theorem releaseHigh_scl (s : State) : releaseHigh .scl s = { s with portScl := true } := rfl
theorem releaseHigh_sda (s : State) : releaseHigh .sda s = { s with portSda := true } := rfl
theorem setInput_scl (s : State) : setInput .scl s = { s with ddrScl := false } := rfl
theorem setInput_sda (s : State) : setInput .sda s = { s with ddrSda := false } := rfl
theorem setOutput_scl (s : State) : setOutput .scl s = { s with ddrScl := true } := rfl
theorem setOutput_sda (s : State) : setOutput .sda s = { s with ddrSda := true } := rfl
@[simp] theorem delayLow_eq (s : State) : delayLow s = s := rfl
@[simp] theorem delayHigh_eq (s : State) : delayHigh s = s := rfl
theorem arm_eight (s : State) : arm 8 s = writeSr 0xF0 s := rfl
theorem arm_one (s : State) : arm 1 s = writeSr 0xFE s := rfl

/-! What the lines do not depend on: the pulls read the four latches and DR only. -/

@[simp] theorem sclPull_goto (k : MicroCode) (s : State) : sclPull (goto k s) = sclPull s := rfl
@[simp] theorem sdaPull_goto (k : MicroCode) (s : State) : sdaPull (goto k s) = sdaPull s := rfl
@[simp] theorem sclPull_settle (b s : State) : sclPull (settle b s) = sclPull s := rfl
@[simp] theorem sdaPull_settle (b s : State) : sdaPull (settle b s) = sdaPull s := rfl
@[simp] theorem outEvents_self (s : State) : outEvents s s = [] := by simp [outEvents]

end Sys2Proof.Machine
end

