-- ==== Sys2Proof/Laws/Ops.lean ====
section
/-! SUPPORT. Laws/Ops.lean: for each shared operation, once, everything it can do. -/

namespace Sys2Proof.Machine

/-! ### Ends of a step -/

/-- `finish` always answers a next state. -/
theorem finish_eq (s t : State) (k : MicroCode) : finish s t k = .next (settle s (goto k t)) := rfl

theorem finish_next {s t u : State} {k : MicroCode} : finish s t k = .next u ↔ u = settle s (goto k t) := by
  simp [finish, eq_comm]

theorem refuse_next {r : Refusal} {u : State} : refuse r = .next u ↔ False := by simp [refuse]

/-- An access answers a next state only when it succeeded. -/
theorem onAccess_next {α : Type} {r : Except Fault α} {k : α → Result} {u : State} :
    onAccess r k = .next u ↔ ∃ v, r = .ok v ∧ k v = .next u := by
  cases r <;> simp [onAccess]

theorem onAccess_ok {α : Type} (v : α) (k : α → Result) : onAccess (.ok v) k = k v := rfl
theorem onAccess_error {α : Type} (f : Fault) (k : α → Result) : onAccess (.error f) k = .fault f := rfl

/-- A wait answers a next state: on a high level the work and the successor, on a low level the same micro-state, with the
draw taken and nothing else changed. -/
theorem waitSclHigh_next {s u : State} {self k : MicroCode} {f : State → State} (h : waitSclHigh s self k f = .next u) :
    (sclLevel s (nextScl s) = true ∧ u = settle s (goto k (f (traceLine .sclHigh (takeScl s))))) ∨
    (sclLevel s (nextScl s) = false ∧ u = settle s (goto self (takeScl s))) := by
  unfold waitSclHigh at h
  injection h with h
  cases hl : sclLevel s (nextScl s) <;> simp [hl] at h
  · exact .inr ⟨rfl, h.symm⟩
  · exact .inl ⟨rfl, h.symm⟩

/-- A step that moves no line leaves no `Out`. -/
theorem settle_of_same {s t : State} (hc : sclPull t = sclPull s) (hd : sdaPull t = sdaPull s) : settle s t = t := by
  simp [settle, outEvents, releases, hc, hd]

/-! ### Accesses -/

theorem memRead_ok {s : State} {a : Nat} {v : Byte} : memRead s a = .ok v ↔ a < s.params.memSize ∧ v = memGet s.mem a := by
  unfold memRead; split <;> simp [*, eq_comm]

theorem memWrite_ok {s t : State} {a : Nat} {v : Byte} :
    memWrite s a v = .ok t ↔ a < s.params.memSize ∧ t = { s with mem := memPut s.mem a v } := by
  unfold memWrite; split <;> simp [*, eq_comm]

/-- A buffer read comes from TMPBUF or from host memory (20_memory R52). -/
theorem bufRead_ok {s : State} {i : Nat} {v : Byte} :
    bufRead s i = .ok v ↔
      (s.bufsel = true ∧ ((i = 0 ∧ v = s.tmp0) ∨ (i = 1 ∧ v = s.tmp1))) ∨
      (s.bufsel = false ∧ s.argBuf + i < s.params.memSize ∧ v = memGet s.mem (s.argBuf + i)) := by
  unfold bufRead
  cases s.bufsel
  · simp [memRead_ok, bufAddr]
  · rcases i with _ | _ | i <;> simp [tmpRead, eq_comm]

/-- A buffer write goes to host memory (20_memory R53). -/
theorem bufWrite_next {s u : State} {i : Nat} {v : Byte} {k : State → Result} :
    bufWrite s i v k = .next u ↔
      s.bufsel = false ∧ s.argBuf + i < s.params.memSize ∧ k { s with mem := memPut s.mem (s.argBuf + i) v } = .next u := by
  unfold bufWrite
  by_cases hb : s.bufsel = true
  · rw [if_pos hb, refuse_next]
    exact ⟨False.elim, fun h => absurd hb (by rw [h.1]; decide)⟩
  · rw [if_neg hb, onAccess_next]
    constructor
    · rintro ⟨t, ht, hk⟩
      obtain ⟨ha, rfl⟩ := memWrite_ok.1 ht
      exact ⟨by simpa using hb, ha, hk⟩
    · rintro ⟨-, ha, hk⟩
      exact ⟨_, memWrite_ok.2 ⟨ha, rfl⟩, hk⟩

/-! ### Lengths -/

theorem lenDec_of_pos {p : Params} {v : Nat} (h : 1 ≤ v) (hv : v < 2 ^ p.lenBits) : lenDec p v = v - 1 := by
  unfold lenDec
  rw [show v + 2 ^ p.lenBits - 1 = (v - 1) + 2 ^ p.lenBits by omega, Nat.add_mod_right, Nat.mod_eq_of_lt (by omega)]

theorem lenInc_of_lt {p : Params} {v : Nat} (h : v + 1 < 2 ^ p.lenBits) : lenInc p v = v + 1 :=
  Nat.mod_eq_of_lt h

/-- A direction is WRITE or READ (30_encoding R78). -/
theorem directionPhase_cases (b : Byte) :
    (b.getLsbD 0 = false ∧ directionPhase b = Phase.WRITE) ∨ (b.getLsbD 0 = true ∧ directionPhase b = Phase.READ) := by
  unfold directionPhase; cases b.getLsbD 0 <;> simp

/-- WRITE_BYTE's address byte is even (44_write_byte R221). -/
theorem writeAddressByte_even (a : Byte) : (writeAddressByte a).getLsbD 0 = false := by
  simp [writeAddressByte]

/-! ### The strobe -/

/-- A strobe toggles the clock latch and counts; it always leaves CR = 0x2A (10_state R27). -/
theorem strobe_eq (s : State) :
    strobe s = { s with portScl := !s.portScl, cnt := s.cnt + 1, oif := s.oif || s.cnt == 15, cr := 0x2A } := rfl

end Sys2Proof.Machine
end

