-- ==== Sys2Proof/Laws/PerInstr.lean ====
section
/-! SUPPORT. Laws/PerInstr.lean: statements over every constructor of Instr, one lemma each. -/

namespace Sys2Proof.Laws.EncodedFormat

/-- A host command's code is one byte, 0x01 to 0x03, and every other instruction's is a 6-bit STATE code of at most 0x38
(30_encoding R71, R83, R86). -/
def codeFits (i : Instr) (w : Code) : Bool :=
  match w with
  | .cmd b => i ∈ [Instr.init, .transfer, .writeByte] && 1 ≤ b.toNat && b.toNat ≤ 3
  | .micro c => !(i ∈ [Instr.init, .transfer, .writeByte]) && c.toNat ≤ 0x38

/-- The instruction is well formed as it stands, and its code has the format of its kind. -/
def Statement (i : Instr) : Prop := i.wf = true ∧ codeFits i (encode i) = true

theorem init : Statement .init := by unfold Statement; decide
theorem transfer : Statement .transfer := by unfold Statement; decide
theorem writeByte : Statement .writeByte := by unfold Statement; decide
theorem idle : Statement .idle := by unfold Statement; decide
theorem in0 : Statement .in0 := by unfold Statement; decide
theorem tr0 : Statement .tr0 := by unfold Statement; decide
theorem wb0 : Statement .wb0 := by unfold Statement; decide
theorem st0 : Statement .st0 := by unfold Statement; decide
theorem st1 : Statement .st1 := by unfold Statement; decide
theorem st2 : Statement .st2 := by unfold Statement; decide
theorem st3 : Statement .st3 := by unfold Statement; decide
theorem st4 : Statement .st4 := by unfold Statement; decide
theorem st5 : Statement .st5 := by unfold Statement; decide
theorem st6 : Statement .st6 := by unfold Statement; decide
theorem bd : Statement .bd := by unfold Statement; decide
theorem wr0 : Statement .wr0 := by unfold Statement; decide
theorem wr1 : Statement .wr1 := by unfold Statement; decide
theorem wr2 : Statement .wr2 := by unfold Statement; decide
theorem wr3 : Statement .wr3 := by unfold Statement; decide
theorem wr4 : Statement .wr4 := by unfold Statement; decide
theorem wr5 : Statement .wr5 := by unfold Statement; decide
theorem wr6 : Statement .wr6 := by unfold Statement; decide
theorem nk0 : Statement .nk0 := by unfold Statement; decide
theorem nk1 : Statement .nk1 := by unfold Statement; decide
theorem nk2 : Statement .nk2 := by unfold Statement; decide
theorem rd0 : Statement .rd0 := by unfold Statement; decide
theorem rd1 : Statement .rd1 := by unfold Statement; decide
theorem rd2 : Statement .rd2 := by unfold Statement; decide
theorem rd3 : Statement .rd3 := by unfold Statement; decide
theorem rd4 : Statement .rd4 := by unfold Statement; decide
theorem rd5 : Statement .rd5 := by unfold Statement; decide
theorem lp : Statement .lp := by unfold Statement; decide
theorem sp0 : Statement .sp0 := by unfold Statement; decide
theorem sp1 : Statement .sp1 := by unfold Statement; decide
theorem sp2 : Statement .sp2 := by unfold Statement; decide
theorem sp3 : Statement .sp3 := by unfold Statement; decide
theorem sp4 : Statement .sp4 := by unfold Statement; decide
theorem sp5 : Statement .sp5 := by unfold Statement; decide
theorem sp6 : Statement .sp6 := by unfold Statement; decide
theorem sp7 : Statement .sp7 := by unfold Statement; decide
theorem xf0 : Statement .xf0 := by unfold Statement; decide
theorem xf1 : Statement .xf1 := by unfold Statement; decide
theorem xf2 : Statement .xf2 := by unfold Statement; decide
theorem xf3 : Statement .xf3 := by unfold Statement; decide
theorem xf4 : Statement .xf4 := by unfold Statement; decide
theorem xf5 : Statement .xf5 := by unfold Statement; decide
theorem xf6 : Statement .xf6 := by unfold Statement; decide
theorem xf7 : Statement .xf7 := by unfold Statement; decide
theorem xf8 : Statement .xf8 := by unfold Statement; decide

end Sys2Proof.Laws.EncodedFormat
end

