-- ==== Sys2Proof/Laws/Step.lean ====
section
/-! SUPPORT. Laws/Step.lean: everything a step, a fetch and an event can do. -/

namespace Sys2Proof.Machine

/-- A step is an event from outside or a master step. -/
theorem step_cases (s : State) :
    (∃ e t, dueEvent s = some (e, t) ∧ step s = perform t e) ∨ (dueEvent s = none ∧ step s = masterStep (tick s)) := by
  unfold step
  cases h : dueEvent s with
  | none => exact .inr ⟨rfl, rfl⟩
  | some p => exact .inl ⟨p.1, p.2, rfl, rfl⟩

theorem step_of_no_event {s : State} (h : s.arrivals = []) : step s = masterStep s := by
  simp [step, dueEvent, tick, h]

/-- A due event is enabled, and taking it off changes only the list of arrivals. -/
theorem dueEvent_some {s t : State} {e : Event} (h : dueEvent s = some (e, t)) :
    enabled s e = true ∧ ∃ rest, s.arrivals = ⟨0, e⟩ :: rest ∧ t = { s with arrivals := rest } := by
  unfold dueEvent at h
  match ha : s.arrivals with
  | [] => simp [ha] at h
  | ⟨d, e'⟩ :: rest =>
    simp only [ha, Option.ite_none_right_eq_some, Option.some.injEq, Prod.mk.injEq, Bool.and_eq_true,
      decide_eq_true_eq] at h
    obtain ⟨⟨rfl, he⟩, rfl, rfl⟩ := h
    exact ⟨he, rest, rfl, rfl⟩

/-- A tick changes only the list of arrivals. -/
theorem tick_eq (s : State) : tick s = { s with arrivals := (tick s).arrivals } := by
  unfold tick; split <;> rfl

/-- What the next master step performs. -/
theorem fetch_ok {s : State} {i : Instr} (h : fetch s = .ok i) :
    (s.fsm = Micro.IDLE ∧ s.cmd = none ∧ i = .idle) ∨
    (s.fsm = Micro.IDLE ∧ ∃ c, s.cmd = some c ∧ decodeCmd c = .ok i) ∨
    (s.fsm ≠ Micro.IDLE ∧ decodeMicro s.fsm = .ok i) := by
  unfold fetch at h
  split at h
  · rename_i hf
    split at h
    · rename_i hc
      injection h with h
      exact .inl ⟨hf, hc, h.symm⟩
    · rename_i c hc
      split at h
      · rename_i j hj
        injection h with h
        exact .inr (.inl ⟨hf, c, hc, h ▸ hj⟩)
      · cases h
  · rename_i hf
    split at h
    · rename_i j hj
      injection h with h
      exact .inr (.inr ⟨hf, h ▸ hj⟩)
    · cases h

theorem fetch_error {s : State} {r : Refusal} (h : fetch s = .error r) :
    (s.fsm = Micro.IDLE ∧ r = .illegalCmd) ∨
    (s.fsm ≠ Micro.IDLE ∧ r = .internalError ∧ decodeMicro s.fsm = .error (.reservedMicroState s.fsm)) := by
  unfold fetch at h
  split at h
  · rename_i hf
    split at h
    · cases h
    · split at h
      · cases h
      · injection h with h; exact .inl ⟨hf, h.symm⟩
  · rename_i hf
    split at h
    · cases h
    · rename_i d hd
      injection h with h
      refine .inr ⟨hf, h.symm, ?_⟩
      unfold decodeMicro at hd ⊢
      split at hd <;> simp_all

/-- A master step that answers a next state performed a fetched instruction. -/
theorem masterStep_next {s t : State} (h : masterStep s = .next t) : ∃ i, fetch s = .ok i ∧ exec i s = .next t := by
  unfold masterStep at h
  split at h
  · exact ⟨_, ‹_›, h⟩
  · exact absurd h (by simp [refuse])

/-- A store answers a next state only when the value fits. -/
theorem storeIfFits_next {fits : Bool} {t u : State} : storeIfFits fits t = .next u ↔ fits = true ∧ u = t := by
  cases fits <;> simp [storeIfFits, refuse, eq_comm]

/-- A port write that answers a next state found the port unlocked and changed one register to a value that fits. -/
theorem hostWrite_next {s t : State} {o v : Nat} (h : hostWrite s o v = .next t) :
    portLocked s = false ∧
    ((o = 0 ∧ v < 2 ^ 8 ∧ t = { s with cmd := some (BitVec.ofNat 8 v) }) ∨
     (o = 2 ∧ v < 2 ^ 8 ∧ t = { s with argAddr := BitVec.ofNat 8 v }) ∨
     (o = 3 ∧ v < 2 ^ 8 ∧ t = { s with argData := BitVec.ofNat 8 v }) ∨
     (o = 4 ∧ v < 2 ^ s.params.addrBits ∧ t = { s with argBuf := v }) ∨
     (o = 5 ∧ v < 2 ^ s.params.lenBits ∧ t = { s with argLen := v })) := by
  unfold hostWrite at h
  split at h
  case h_2 => split at h <;> simp [refuse] at h
  case h_7 => cases h
  all_goals
    split at h
    · simp [refuse] at h
    · rename_i hl
      exact ⟨by simpa using hl, by simpa [storeIfFits_next, fitsByte, Params.fitsAddr, Params.fitsLen] using h⟩

/-- A port read changes only what the host has read. -/
theorem hostRead_next {s t : State} {o : Nat} (h : hostRead s o = .next t) :
    ∃ v, portValue s o = some v ∧ t = { s with hostReads := s.hostReads ++ [.port o v] } := by
  unfold hostRead at h
  split at h
  · rename_i v hv
    injection h with h
    exact ⟨v, hv, h.symm⟩
  · cases h

/-- Everything an event can do. -/
theorem perform_next {s t : State} {e : Event} (h : perform s e = .next t) :
    (∃ o v, e = .writePort o v ∧ hostWrite s o v = .next t) ∨
    (∃ r, t = { s with hostReads := s.hostReads ++ [r] }) ∨
    (∃ a v, e = .writeMem a v ∧ a < s.params.memSize ∧ t = { s with mem := memPut s.mem a v }) ∨
    (e = .reset ∧ t = resetEvent s) := by
  cases e with
  | writePort o v => exact .inl ⟨o, v, rfl, h⟩
  | readPort o =>
    obtain ⟨v, _, rfl⟩ := hostRead_next h
    exact .inr (.inl ⟨_, rfl⟩)
  | wait =>
    obtain ⟨v, _, ht⟩ := hostRead_next (o := 1) h
    exact .inr (.inl ⟨_, ht⟩)
  | writeMem a v =>
    obtain ⟨u, hu, hk⟩ := onAccess_next.1 h
    obtain ⟨ha, rfl⟩ := memWrite_ok.1 hu
    injection hk with hk
    exact .inr (.inr (.inl ⟨a, v, rfl, ha, hk.symm⟩))
  | readMem a =>
    obtain ⟨u, hu, hk⟩ := onAccess_next.1 h
    injection hk with hk
    exact .inr (.inl ⟨_, hk.symm⟩)
  | reset =>
    injection h with h
    exact .inr (.inr (.inr ⟨rfl, h.symm⟩))

end Sys2Proof.Machine
end

