-- ==== Sys2Proof/Laws/Safety.lean ====
section
/-! SUPPORT. Laws/Safety.lean: what the shared operations do, in the words of Safety.lean. -/

namespace Sys2Proof.Safety

open Sys2Proof.Machine

/-- What `finish` leaves, with the record of the lines. -/
theorem stepsTo_finish (s t : State) (k : MicroCode) : StepsTo s (finish s t k) { t with fsm := k } := by
  have hc : sclPull { t with fsm := k } = sclPull t := rfl
  have hd : sdaPull { t with fsm := k } = sdaPull t := rfl
  unfold StepsTo finish settle outEvents releases goto
  simp only [hc, hd]
  cases sclPull s <;> cases sdaPull s <;> cases sclPull t <;> cases sdaPull t <;> simp

/-- A step that moves no line leaves no record of the lines. -/
theorem finish_of_same {s t : State} {k : MicroCode} (hc : sclPull t = sclPull s) (hd : sdaPull t = sdaPull s) :
    finish s t k = .next { t with fsm := k } := by
  rw [finish_eq, settle_of_same (t := goto k t) hc hd]
  rfl

theorem takeScl_eq (s : State) : takeScl s = afterSclDraw s := by
  unfold takeScl afterSclDraw
  rcases s.envScl with _ | ⟨e, rest⟩ <;> simp

theorem takeSda_eq (s : State) : takeSda s = afterSdaDraw s := by
  unfold takeSda afterSdaDraw
  rcases s.envSda with _ | ⟨e, rest⟩ <;> simp

/-- A draw leaves what the master puts on the lines. -/
@[simp] theorem afterSclDraw_sclPull (s : State) : sclPull (afterSclDraw s) = sclPull s := by
  rw [← takeScl_eq]; rfl

@[simp] theorem afterSclDraw_sdaPull (s : State) : sdaPull (afterSclDraw s) = sdaPull s := by
  rw [← takeScl_eq]; rfl

/-- A wait that reads SCL high. -/
theorem waitSclHigh_high {s : State} {self k : MicroCode} {f : State → State} (h : sclPull s = false ∧ nextScl s = true) :
    waitSclHigh s self k f = .next (settle s (goto k (f (traceLine .sclHigh (afterSclDraw s))))) := by
  simp [waitSclHigh, sclLevel, h, takeScl_eq]

/-- A wait that reads SCL low. -/
theorem waitSclHigh_low {s : State} {self k : MicroCode} {f : State → State} (h : sclPull s = true ∨ nextScl s = false) :
    waitSclHigh s self k f = .next { afterSclDraw s with fsm := self } := by
  have hl : sclLevel s (nextScl s) = false := by rcases h with h | h <;> simp [sclLevel, h]
  unfold waitSclHigh
  rw [if_neg (by simp [hl]), takeScl_eq,
    settle_of_same (t := goto self (afterSclDraw s)) (afterSclDraw_sclPull s) (afterSclDraw_sdaPull s)]
  rfl

/-- A buffer read of a byte that exists. -/
theorem bufRead_of_has {s : State} {i : Nat} (h : bufferHas s i = true) : bufRead s i = .ok (bufferByte s i) := by
  unfold bufferHas at h
  unfold bufRead bufferByte
  split at h
  · rename_i hb
    have hi : i = 0 ∨ i = 1 := by simp at h; omega
    rcases hi with rfl | rfl <;> simp [hb, tmpRead]
  · rename_i hb
    simp at h
    simp [hb, memRead, bufAddr, h]

/-- A buffer read of a byte that does not exist. -/
theorem bufRead_of_not_has {s : State} {i : Nat} (h : bufferHas s i = false) :
    bufRead s i = .error (if s.bufsel = true then .noSuchTmpByte i else .noSuchAddress (s.argBuf + i)) := by
  unfold bufferHas at h
  unfold bufRead
  split at h
  · rename_i hb
    obtain ⟨n, rfl⟩ : ∃ n, i = n + 2 := ⟨i - 2, by simp at h; omega⟩
    simp [hb, tmpRead]
  · rename_i hb
    simp only [decide_eq_false_iff_not] at h
    simp [hb, memRead, bufAddr, h]

/-- Where a call of XFER may stand, and for how many bits (42_bit_byte_transfer R140). -/
theorem callLegal_cases {k : MicroCode} {n : BitVec 4} (h : callLegal k n = true) :
    (k = Micro.WR3 ∧ n = 8) ∨ (k = Micro.RD2 ∧ n = 8) ∨ (k = Micro.WR5 ∧ n = 1) ∨ (k = Micro.LP ∧ n = 1) := by
  simp [callLegal] at h
  rcases h with ⟨h1 | h1, h2⟩ | ⟨h1 | h1, h2⟩ <;> simp [h1, h2]

/-- One more step. -/
theorem runs_succ (n : Nat) (s : State) :
    runs (n + 1) s = match step s with
      | .next t => runs n t
      | .fault f => .fault f
      | .refused r => .refused r := by
  simp only [runs, Host.Core.run]
  have hs : core.step s = step s := rfl
  rw [hs]
  cases step s <;> rfl

theorem runs_succ_of_next {n : Nat} {s t : State} (h : step s = .next t) : runs (n + 1) s = runs n t := by
  rw [runs_succ, h]

/-- A run may be cut in two. -/
theorem runs_add {m n : Nat} {s t : State} (h : runs m s = .next t) : runs (m + n) s = runs n t := by
  induction m generalizing s with
  | zero =>
    have h' : Host.Outcome.next s = .next t := h
    injection h' with h'
    rw [h', Nat.zero_add]
  | succ m ih =>
    rw [runs_succ] at h
    rw [Nat.add_right_comm, runs_succ]
    cases hs : step s with
    | next u => rw [hs] at h; exact ih h
    | fault f => rw [hs] at h; cases h
    | refused r => rw [hs] at h; cases h

end Sys2Proof.Safety
end

