-- ==== Sys2Proof/Tests/Slice0.lean ====
section
/-! SUPPORT. Slice0.lean: the model's own tests. Expected results come from the spec's tables and examples; a witness shows
that the hypotheses of a statement can be met together. -/

namespace Sys2Proof.Tests

open Sys2Proof.Machine Sys2Proof.Safety

/-! ### Helpers -/

/-- The state a step goes on from. -/
def nextOf (r : Result) : Option State :=
  match r with
  | .next t => some t
  | .fault _ => none
  | .refused _ => none

/-- The refusal a step ends in. -/
def refusalOf (r : Result) : Option Refusal :=
  match r with
  | .next _ => none
  | .fault _ => none
  | .refused x => some x

/-- Right after INIT (95_test_vectors I1). -/
def ready : State :=
  { State.reset with initDone := true, cr := 0x2A, dr := 0xFF, ddrScl := true, portScl := true, ddrSda := true, portSda := true }

/-- In the middle of a transfer: SCL pulled low, SDA an output released by its latch. -/
def midBit : State := { ready with busy := true, portScl := false, fsm := 0x30 }

/-! ### Well-formedness: one ill-formed term for each check -/

theorem test_wf_instr : Instr.wf .xf8 = true := rfl
theorem test_params_addrBits : Params.wf { addrBits := 0, lenBits := 2, memSize := 1 } = false := by decide
theorem test_params_lenBits : Params.wf { addrBits := 4, lenBits := 1, memSize := 16 } = false := by decide
theorem test_params_memSize : Params.wf { addrBits := 4, lenBits := 2, memSize := 17 } = false := by decide
theorem test_params_ok : Params.wf { addrBits := 4, lenBits := 2, memSize := 16 } = true := by decide
theorem test_transfer_buf_too_wide : Command.wf Params.vectors (.transfer 256 1) = false := by decide
theorem test_transfer_len_too_wide : Command.wf Params.vectors (.transfer 0 256) = false := by decide
theorem test_transfer_len_zero : Command.wf Params.vectors (.transfer 0 0) = false := by decide
theorem test_transfer_outside_memory : Command.wf Params.vectors (.transfer 255 2) = false := by decide
theorem test_transfer_last_byte : Command.wf Params.vectors (.transfer 255 1) = true := by decide
theorem test_writeByte_address_too_large : Command.wf Params.vectors (.writeByte 0x80 0) = false := by decide
theorem test_writeByte_data_too_wide : Command.wf Params.vectors (.writeByte 0x7F 0x100) = false := by decide
theorem test_writeByte_ok : Command.wf Params.vectors (.writeByte 0x7F 0xFF) = true := by decide
theorem test_probe_buf_too_wide : Command.wf Params.vectors (.probe 256) = false := by decide
theorem test_probe_outside_memory : Command.wf { Params.vectors with memSize := 16 } (.probe 16) = false := by decide

/-! ### Decoding: every row of the opcode table, its bits written out from the spec -/

/-- Words of 30_encoding R71. -/
theorem test_decode_commands :
    decode (.cmd 0b00000001#8) = .ok .init ∧ decode (.cmd 0b00000010#8) = .ok .transfer ∧ decode (.cmd 0b00000011#8) = .ok .writeByte := ⟨rfl, rfl, rfl⟩

/-- Words of 30_encoding R83. -/
theorem test_decode_set_up :
    decode (.micro 0b000000#6) = .ok .idle ∧
    decode (.micro 0b000001#6) = .ok .in0 ∧
    decode (.micro 0b000010#6) = .ok .tr0 ∧
    decode (.micro 0b000011#6) = .ok .wb0 := ⟨rfl, rfl, rfl, rfl⟩

/-- Words of 30_encoding R83. -/
theorem test_decode_start :
    decode (.micro 0b001000#6) = .ok .st0 ∧
    decode (.micro 0b001001#6) = .ok .st1 ∧
    decode (.micro 0b001010#6) = .ok .st2 ∧
    decode (.micro 0b001011#6) = .ok .st3 ∧
    decode (.micro 0b001100#6) = .ok .st4 ∧
    decode (.micro 0b001101#6) = .ok .st5 ∧
    decode (.micro 0b001110#6) = .ok .st6 := ⟨rfl, rfl, rfl, rfl, rfl, rfl, rfl⟩

/-- Words of 30_encoding R83. -/
theorem test_decode_write :
    decode (.micro 0b001111#6) = .ok .bd ∧
    decode (.micro 0b010000#6) = .ok .wr0 ∧
    decode (.micro 0b010001#6) = .ok .wr1 ∧
    decode (.micro 0b010010#6) = .ok .wr2 ∧
    decode (.micro 0b010011#6) = .ok .wr3 ∧
    decode (.micro 0b010100#6) = .ok .wr4 ∧
    decode (.micro 0b010101#6) = .ok .wr5 ∧
    decode (.micro 0b010110#6) = .ok .wr6 := ⟨rfl, rfl, rfl, rfl, rfl, rfl, rfl, rfl⟩

/-- Words of 30_encoding R83. -/
theorem test_decode_nack :
    decode (.micro 0b011000#6) = .ok .nk0 ∧
    decode (.micro 0b011001#6) = .ok .nk1 ∧
    decode (.micro 0b011010#6) = .ok .nk2 := ⟨rfl, rfl, rfl⟩

/-- Words of 30_encoding R83. -/
theorem test_decode_read :
    decode (.micro 0b100000#6) = .ok .rd0 ∧
    decode (.micro 0b100001#6) = .ok .rd1 ∧
    decode (.micro 0b100010#6) = .ok .rd2 ∧
    decode (.micro 0b100011#6) = .ok .rd3 ∧
    decode (.micro 0b100100#6) = .ok .rd4 ∧
    decode (.micro 0b100101#6) = .ok .rd5 ∧
    decode (.micro 0b100111#6) = .ok .lp := ⟨rfl, rfl, rfl, rfl, rfl, rfl, rfl⟩

/-- Words of 30_encoding R83. -/
theorem test_decode_stop :
    decode (.micro 0b101000#6) = .ok .sp0 ∧
    decode (.micro 0b101001#6) = .ok .sp1 ∧
    decode (.micro 0b101010#6) = .ok .sp2 ∧
    decode (.micro 0b101011#6) = .ok .sp3 ∧
    decode (.micro 0b101100#6) = .ok .sp4 ∧
    decode (.micro 0b101101#6) = .ok .sp5 ∧
    decode (.micro 0b101110#6) = .ok .sp6 ∧
    decode (.micro 0b101111#6) = .ok .sp7 := ⟨rfl, rfl, rfl, rfl, rfl, rfl, rfl, rfl⟩

/-- Words of 30_encoding R83. -/
theorem test_decode_xfer :
    decode (.micro 0b110000#6) = .ok .xf0 ∧
    decode (.micro 0b110001#6) = .ok .xf1 ∧
    decode (.micro 0b110010#6) = .ok .xf2 ∧
    decode (.micro 0b110011#6) = .ok .xf3 ∧
    decode (.micro 0b110100#6) = .ok .xf4 ∧
    decode (.micro 0b110101#6) = .ok .xf5 ∧
    decode (.micro 0b110110#6) = .ok .xf6 ∧
    decode (.micro 0b110111#6) = .ok .xf7 ∧
    decode (.micro 0b111000#6) = .ok .xf8 := ⟨rfl, rfl, rfl, rfl, rfl, rfl, rfl, rfl, rfl⟩

theorem test_decode_reserved :
    decode (.cmd 0x00) = .error (.reservedCommand 0x00) ∧ decode (.cmd 0x04) = .error (.reservedCommand 0x04) ∧
    decode (.cmd 0xFF) = .error (.reservedCommand 0xFF) ∧ decode (.micro 0x17) = .error (.reservedMicroState 0x17) ∧
    decode (.micro 0x07) = .error (.reservedMicroState 0x07) ∧ decode (.micro 0x26) = .error (.reservedMicroState 0x26) ∧
    decode (.micro 0x39) = .error (.reservedMicroState 0x39) := ⟨rfl, rfl, rfl, rfl, rfl, rfl, rfl⟩

theorem test_table_words :
    decodeTableWord 8 0x02 = some .transfer ∧ decodeTableWord 6 0x02 = some .tr0 ∧ decodeTableWord 8 0x22 = some .rd2 ∧
    decodeTableWord 8 0x04 = none ∧ decodeTableWord 6 0x17 = none := by decide

theorem test_fetch_word_runs :
    (nextOf (step (State.reset.withFetchWord 8 0x01))).map (fun t => (t.fsm, t.busy)) = some (0x01, true) := by decide

/-! ### Steps -/

/-- 95_test_vectors I1. -/
theorem test_in0 : (nextOf (exec .in0 { State.reset with busy := true })).map
    (fun t => (t.dr, t.cnt, t.cr, statusByte t)) = some (0xFF, 0, 0x2A, 0b100) := by decide
/-- 95_test_vectors I2. -/
theorem test_init_again : refusalOf (exec .init ready) = some .reInit := by decide
/-- 95_test_vectors I9: NotInit comes before LenZero. -/
theorem test_transfer_priority : refusalOf (exec .transfer State.reset) = some .notInit := by decide
/-- 95_test_vectors I7, I8. -/
theorem test_transfer_range :
    refusalOf (exec .transfer { ready with argBuf := 255, argLen := 2 }) = some .bufRange ∧
    (nextOf (exec .transfer { ready with argBuf := 255, argLen := 1 })).map (fun t => t.fsm) = some 0x02 := by decide
/-- 95_test_vectors W3, W4. -/
theorem test_writeByte_range :
    (nextOf (exec .writeByte { ready with argAddr := 0x7F })).map (fun t => t.fsm) = some 0x03 ∧
    refusalOf (exec .writeByte { ready with argAddr := 0x80 }) = some .addrRange := by decide
/-- 95_test_vectors I5. -/
theorem test_idle_illegal : refusalOf (exec .idle { ready with cmd := some 0x04 }) = some .illegalCmd := by decide
/-- 44_write_byte R221. -/
theorem test_wb0 : (nextOf (exec .wb0 { ready with argAddr := 0x50, argData := 0xAB })).map
    (fun t => (t.tmp0, t.tmp1, t.bufsel)) = some (0xA0, 0xAB, true) := by decide
/-- 43_transfer_fsm R161. -/
theorem test_tr0 : (nextOf (exec .tr0 { ready with argLen := 4, idx := 9 })).map (fun t => (t.rem, t.idx, t.phase)) =
    some (4, 0, 0) := by decide
theorem test_tr0_tmpbuf : (nextOf (exec .tr0 { ready with argLen := 4, bufsel := true })).map (fun t => t.rem) = some 2 := by decide
/-- 43_transfer_fsm R162: after a stop. -/
theorem test_st0 : (nextOf (exec .st0 { ready with ddrScl := false, portScl := false })).map
    (fun t => (t.ddrScl, t.portScl, t.trace)) = some (true, true, []) := by decide
/-- 43_transfer_fsm R163. -/
theorem test_st1 : (nextOf (exec .st1 { ready with envScl := [true] })).map (fun t => (t.fsm, t.trace, t.envScl)) =
    some (0x0A, [.sclHigh], []) := by decide
/-- 43_transfer_fsm R165. -/
theorem test_st3 : (nextOf (exec .st3 ready)).map (fun t => (t.trace, t.buslog)) = some ([.out true false], [.start]) := by decide
/-- 43_transfer_fsm R166. -/
theorem test_st4 : (nextOf (exec .st4 { ready with portSda := false })).map (fun t => t.trace) = some [.out false false] := by decide
/-- 43_transfer_fsm R168, and with the stale DR of 95_test_vectors P6. -/
theorem test_st6 :
    (nextOf (exec .st6 { midBit with portSda := false })).map (fun t => t.trace) = some [.out false true] ∧
    (nextOf (exec .st6 { midBit with portSda := false, dr := 0x03 })).map (fun t => t.trace) = some [] := by decide
/-- 43_transfer_fsm R169: 0x41 is a read. -/
theorem test_bd : (nextOf (exec .bd { midBit with mem := [(0, 0x41)] })).map (fun t => (t.phase, t.fsm)) = some (2, 0x10) := by decide
theorem test_bd_read : (nextOf (exec .bd { midBit with phase := 2 })).map (fun t => t.fsm) = some 0x20 := by decide
/-- 43_transfer_fsm R171. -/
theorem test_wr1 : (nextOf (exec .wr1 { midBit with mem := [(5, 0xA0)], argBuf := 4, idx := 1 })).map (fun t => t.dr) =
    some 0xA0 := by decide
/-- 43_transfer_fsm R175. -/
theorem test_wr5_ack : (nextOf (exec .wr5 { midBit with mem := [(0, 0xA0)], xret := 0x40 })).map (fun t => (t.buslog, t.fsm)) =
    some ([.tx 0xA0 false], 0x16) := by decide
theorem test_wr5_nack : (nextOf (exec .wr5 { midBit with mem := [(0, 0x90)], xret := 0x21 })).map (fun t => (t.buslog, t.fsm)) =
    some ([.tx 0x90 true], 0x18) := by decide
/-- 43_transfer_fsm R176. -/
theorem test_wr6 : (nextOf (exec .wr6 { midBit with ddrSda := false, dr := 0x40 })).map (fun t => t.trace) =
    some [.out false false] := by decide
/-- 43_transfer_fsm R177. -/
theorem test_nk0 : (nextOf (exec .nk0 { midBit with ddrSda := false })).map (fun t => t.trace) = some [.out true true] := by decide
/-- 60_exceptions R252. -/
theorem test_nk2 : (nextOf (exec .nk2 { midBit with result := true })).map statusByte = some 0b100 := by decide
theorem test_sp7 : (nextOf (exec .sp7 midBit)).map statusByte = some 0b110 := by decide
/-- 43_transfer_fsm R182. -/
theorem test_rd2 : (nextOf (exec .rd2 { midBit with mem := [(16, 0x41), (18, 7)], argBuf := 16, idx := 1, xret := 0x12 })).map
    (fun t => t.mem) = some [(16, 0x41), (17, 0x12), (18, 7)] := by decide
theorem test_rd2_zero : (nextOf (exec .rd2 { midBit with mem := [(16, 0x41), (17, 7)], argBuf := 16, idx := 1, xret := 0 })).map
    (fun t => t.mem) = some [(16, 0x41)] := by decide
/-- 43_transfer_fsm R184. -/
theorem test_rd4 :
    (nextOf (exec .rd4 { midBit with rem := 1, xret := 0x56 })).map (fun t => (t.dr, t.buslog)) = some (0xFF, [.rx 0x56 true]) ∧
    (nextOf (exec .rd4 { midBit with rem := 2 })).map (fun t => t.dr) = some 0x00 := by decide
/-- 43_transfer_fsm R186. -/
theorem test_lp :
    (nextOf (exec .lp { midBit with rem := 1 })).map (fun t => (t.rem, t.idx, t.fsm)) = some (0, 1, 0x28) ∧
    (nextOf (exec .lp { midBit with rem := 2, idx := 1 })).map (fun t => (t.rem, t.idx, t.fsm)) = some (1, 2, 0x0F) := by decide
/-- 43_transfer_fsm R189. -/
theorem test_sp2 : (nextOf (exec .sp2 { midBit with portSda := false })).map (fun t => t.trace) = some [.out true false] := by decide
/-- 43_transfer_fsm R192. -/
theorem test_sp5 : (nextOf (exec .sp5 { midBit with ddrScl := false, portSda := false })).map (fun t => (t.trace, t.buslog)) =
    some ([.out true true], [.stop]) := by decide
/-- 42_bit_byte_transfer R141. -/
theorem test_xf0 : (nextOf (exec .xf0 { midBit with xn := 1, oif := true })).map (fun t => (t.cnt, t.oif)) =
    some (14, false) := by decide
/-- 95_test_vectors L14. -/
theorem test_xf2 : (nextOf (exec .xf2 { midBit with cnt := 3 })).map (fun t => (t.cnt, t.oif, t.portScl)) =
    some (4, false, true) := by decide
/-- 42_bit_byte_transfer R144, and a failed poll. -/
theorem test_xf3 : (nextOf (exec .xf3 { midBit with portScl := true, ddrSda := false, envScl := [true], envSda := [true] })).map
    (fun t => (t.sbit, t.trace, t.fsm)) = some (true, [.sclHigh, .sample true], 0x34) := by decide
theorem test_xf3_poll : (nextOf (exec .xf3 { midBit with portScl := true, envScl := [false], envSda := [true] })).map
    (fun t => (t.fsm, t.envSda, t.trace)) = some (0x33, [true], []) := by decide
/-- 42_bit_byte_transfer R146. -/
theorem test_xf5 : (nextOf (exec .xf5 { midBit with portScl := true, dr := 0xA0, sbit := true, cnt := 1 })).map
    (fun t => (t.dr, t.cnt, t.portScl)) = some (0x41, 2, false) := by decide
/-- 95_test_vectors L13. -/
theorem test_xf5_wrap : (nextOf (exec .xf5 { midBit with portScl := true, cnt := 15 })).map (fun t => (t.cnt, t.oif)) =
    some (0, true) := by decide
theorem test_xf6 : (nextOf (exec .xf6 midBit)).map (fun t => t.fsm) = some 0x31 := by decide
theorem test_xf8 : (nextOf (exec .xf8 { midBit with xcont := 0x22, dr := 0x5A })).map (fun t => (t.xret, t.fsm)) =
    some (0x5A, 0x22) := by decide
/-- 95_test_vectors W9, I11, I12, I13, I14. -/
theorem test_host_port :
    refusalOf (hostWrite ready 2 0x100) = some .operandRange ∧
    refusalOf (hostWrite { ready with cmd := some 1 } 5 3) = some .hostBusy ∧
    refusalOf (hostWrite ready 1 0) = some .readOnly ∧ refusalOf (hostWrite ready 5 256) = some .operandRange ∧
    (nextOf (hostRead ready 0)).map (fun t => t.hostReads) = some [.port 0 0] := by decide
/-- 95_test_vectors H1: a reset ends a hang. -/
theorem test_reset_event : (nextOf (perform { ready with fsm := 0x09, busy := true } .reset)).map
    (fun t => (t.fsm, statusByte t, t.trace)) = some (0, 0, []) := by decide
/-- 10_state R23: bit 4 is ignored and ones clear. -/
theorem test_writeSr : (fun t : State => (t.cnt, t.sif, t.oif, t.pf, t.dc)) (writeSr 0x53 { ready with sif := true, oif := true, pf := true, dc := true }) =
    (3, true, false, true, true) := by decide

/-! ### Witnesses -/

/-- The invariant as a check that computes. -/
def invCheck (s : State) : Bool :=
  s.params.wf && Memory.wf s.mem && s.mem.all (fun c => c.1 < s.params.memSize) && (decodeMicro s.fsm).isOk &&
  (s.busy == !decide (s.fsm = Micro.IDLE)) && (!s.cmd.isSome || s.fsm = Micro.IDLE) && (!s.initDone || s.cr = 0x2A) &&
  (s.fsm = Micro.IDLE || s.initDone == !decide (s.fsm = Micro.IN0)) && (!inXfer s.fsm || callLegal s.xcont s.xn) &&
  counting s.fsm s.xn s.cnt s.oif && latched (sclLatches s.fsm) s.ddrScl s.portScl (sclPull s) &&
  latched (sdaLatches (site s)) s.ddrSda s.portSda (sdaPull s) &&
  (s.argBuf < 2 ^ s.params.addrBits && s.argLen < 2 ^ s.params.lenBits && s.rem < 2 ^ s.params.lenBits &&
    s.idx < 2 ^ s.params.lenBits) &&
  (!transferring s.fsm || s.bufsel || (1 ≤ s.argLen && s.argBuf + s.argLen ≤ s.params.memSize)) &&
  (!transferring s.fsm || !s.bufsel || !s.tmp0.getLsbD 0) &&
  (!setUp s.fsm || (s.idx + s.rem = transferLength s && decide (s.rem = 0) == stopping (site s))) &&
  (!setUp s.fsm || decide (0x0F ≤ s.fsm.toNat) || (s.phase = Phase.ADDRESS && s.idx = 0)) &&
  (!decide (s.fsm = Micro.BD) || (s.phase = Phase.ADDRESS && s.idx = 0) ||
    (s.phase = directionPhase (addressByte s) && 1 ≤ s.idx)) &&
  (!classified (site s) || s.phase = directionPhase (addressByte s)) &&
  (!writing (site s) || s.idx = 0 || s.phase = Phase.WRITE) && (!reading (site s) || (s.phase = Phase.READ && 1 ≤ s.idx))

theorem inv_of_check {s : State} (h : invCheck s = true) : Inv s := by
  simp only [invCheck, Bool.and_eq_true] at h
  obtain ⟨⟨⟨⟨⟨⟨⟨⟨⟨⟨⟨⟨⟨⟨⟨⟨⟨⟨⟨⟨h1, h2⟩, h3⟩, h4⟩, h5⟩, h6⟩, h7⟩, h8⟩, h9⟩, h10⟩, h11⟩, h12⟩, h13⟩, h14⟩, h15⟩, h16⟩, h17⟩, h18⟩, h19⟩, h20⟩, h21⟩ := h
  refine ⟨h1, ⟨h2, by simpa using h3⟩, ?_, by simpa using h5, ?_, ?_, ?_, ?_, h10, h11, h12, by simpa [and_assoc] using h13, ?_, ?_, ?_, ?_, ?_, ?_, ?_, ?_⟩
  · cases hd : decodeMicro s.fsm with
    | ok i => exact ⟨i, rfl⟩
    | error e => rw [hd] at h4; cases h4
  · intro h; simpa [h] using h6
  · intro h; simpa [h] using h7
  · intro h; simpa [h] using h8
  · intro h; simpa [h] using h9
  · intro h h'; simpa [h, h'] using h14
  · intro h h'; simpa [h, h'] using h15
  · intro h
    rw [h] at h16
    simp only [Bool.not_true, Bool.false_or, Bool.and_eq_true, decide_eq_true_eq, beq_iff_eq] at h16
    exact ⟨h16.1, by rw [← h16.2]; simp⟩
  · intro h h'
    have h0 : ¬ 15 ≤ s.fsm.toNat := by omega
    simpa [h, h0] using h17
  · intro h; simpa [h] using h18
  · intro h; simpa [h] using h19
  · intro h; simpa [h] using h20
  · intro h; simpa [h] using h21

/-- Ready, with a TRANSFER of [0xA0] pending and answers for every draw. -/
def issued : State :=
  { ready with cmd := some 2, argLen := 1, mem := [(0, 0xA0)], envScl := List.replicate 12 true,
               envSda := List.replicate 8 true ++ [false] }

theorem inv_issued : Inv issued := inv_of_check (by decide)
theorem transferIssued_issued : transferIssued issued := by unfold transferIssued; decide

/-- At the acknowledge of the last byte of a two-byte read of 0xA1. -/
def acking : State :=
  { midBit with fsm := 0x24, argLen := 2, mem := [(0, 0xA1)], rem := 1, idx := 1, phase := 2 }

/-- At TR0 of a WRITE_BYTE, and of the TRANSFER of the same bytes. -/
def twinByte : State := { ready with busy := true, fsm := 0x02, bufsel := true, tmp0 := 0xA0, tmp1 := 0xAB }
def twinTransfer : State := { twinByte with bufsel := false, argBuf := 4, argLen := 2, mem := [(4, 0xA0), (5, 0xAB)] }

theorem witness_ReservedCodesRefused_commands :
    ((0x00#8 = 0 ∨ 4 ≤ (0x00#8).toNat) ∧ (0x04#8 = 0 ∨ 4 ≤ (0x04#8).toNat) ∧ (0xFF#8 = 0 ∨ 4 ≤ (0xFF#8).toNat)) ∧
    { ready with cmd := some 0x04 }.fsm = 0x00#6 ∧ { ready with cmd := some 0x04 }.cmd = some 0x04#8 := by decide

theorem witness_ReservedCodesRefused_states :
    ∀ c ∈ [0x04#6, 0x07#6, 0x17#6, 0x1B#6, 0x1F#6, 0x26#6, 0x39#6, 0x3F#6],
      ((0x04 ≤ c.toNat ∧ c.toNat ≤ 0x07) ∨ c.toNat = 0x17 ∨ (0x1B ≤ c.toNat ∧ c.toNat ≤ 0x1F) ∨ c.toNat = 0x26 ∨
        0x39 ≤ c.toNat) ∧ { ready with fsm := c }.fsm = c := by decide

theorem witness_StepPerformsDecodedInstruction :
    (dueEvent ready = none ∧ ready.fsm = 0x00#6 ∧ ready.cmd = none) ∧
    (dueEvent issued = none ∧ issued.fsm = 0x00#6 ∧ issued.cmd = some 0x02#8 ∧ decode (.cmd 0x02) = .ok .transfer) ∧
    (dueEvent acking = none ∧ acking.fsm ≠ 0x00#6 ∧ decode (.micro acking.fsm) = .ok .rd4) ∧ ready.arrivals = [] := by
  refine ⟨⟨rfl, rfl, rfl⟩, ⟨rfl, rfl, rfl, rfl⟩, ⟨rfl, by decide, rfl⟩, rfl⟩

theorem witness_FetchWordRunsNext : decodeTableWord 6 0x00 = some .idle ∧ decodeTableWord 8 0x03 = some .writeByte := by
  decide

theorem witness_OneEventPerStep :
    ({ ready with arrivals := [⟨0, .readPort 1⟩] }.arrivals = ⟨0, .readPort 1⟩ :: [] ∧
      enabled { ready with arrivals := [⟨0, .readPort 1⟩] } (.readPort 1) = true) ∧
    ({ midBit with arrivals := [⟨0, .wait⟩] }.arrivals = ⟨0, .wait⟩ :: [] ∧
      enabled { midBit with arrivals := [⟨0, .wait⟩] } .wait = false) ∧
    { ready with arrivals := [⟨0 + 1, .reset⟩] }.arrivals = ⟨0 + 1, .reset⟩ :: [] := by decide

theorem witness_OwnedBufferIsHeldBack :
    (issued.busy = true ∨ issued.cmd = some 0x02#8) ∧ issued.argBuf ≤ 0 ∧ 0 < issued.argBuf + issued.argLen ∧
    issued.argBuf + issued.argLen ≤ 1 ∧ 3 < { issued with argBuf := 4 }.argBuf := by decide

theorem witness_ResetLeavesSpecValues : State.resetWith Params.vectors = State.resetWith Params.vectors := rfl

theorem witness_ResetAbandonsCommand :
    { midBit with arrivals := [⟨0, .reset⟩] }.arrivals = ⟨0, .reset⟩ :: [] ∧ sclPull { midBit with arrivals := [⟨0, .reset⟩] } = true := by
  decide

/-- The record of a refused run: the mark, and nothing else (60_exceptions R232). -/
theorem test_refusal_record :
    recordOutcome { ready with cmd := some 0x01 } (step { ready with cmd := some 0x01 }) =
      { ready with cmd := some 0x01, refused := some .reInit } := rfl

/-- Every cause of 60_exceptions R233 that a master step can meet is met by some state. -/
theorem witness_MasterRefusalsHaveTheirCauses :
    masterStep { ready with cmd := some 0xFF } = .refused .illegalCmd ∧
    masterStep { State.reset with cmd := some 0x02 } = .refused .notInit ∧
    masterStep { State.reset with cmd := some 0x03 } = .refused .notInit ∧
    masterStep { ready with cmd := some 0x01 } = .refused .reInit ∧
    masterStep { ready with cmd := some 0x02 } = .refused .lenZero ∧
    masterStep { ready with cmd := some 0x03, argAddr := 0x80 } = .refused .addrRange ∧
    masterStep { ready with cmd := some 0x02, argBuf := 255, argLen := 2 } = .refused .bufRange ∧
    masterStep { ready with fsm := 0x17 } = .refused .internalError ∧
    masterStep { midBit with fsm := 0x0F, phase := 3 } = .refused .internalError ∧
    masterStep { midBit with fsm := 0x22, bufsel := true } = .refused .internalError :=
  ⟨rfl, rfl, rfl, rfl, rfl, rfl, rfl, rfl, rfl, rfl⟩

/-- Every cause of 60_exceptions R233 that a host action can meet is met, HostBusy also by a write that is at fault twice. -/
theorem witness_HostRefusalsHaveTheirCauses :
    perform { ready with cmd := some 0x01 } (.writePort 5 256) = .refused .hostBusy ∧
    perform midBit (.writePort 1 0) = .refused .hostBusy ∧ perform ready (.writePort 1 0) = .refused .readOnly ∧
    perform ready (.writePort 0 0x100) = .refused .operandRange ∧ perform ready (.writePort 2 0x100) = .refused .operandRange ∧
    perform ready (.writePort 3 0x100) = .refused .operandRange ∧ perform ready (.writePort 4 256) = .refused .operandRange ∧
    perform ready (.writePort 5 256) = .refused .operandRange :=
  ⟨rfl, rfl, rfl, rfl, rfl, rfl, rfl, rfl⟩

theorem witness_LineLevels :
    { ready with envScl := [false] }.envScl = false :: [] ∧ { ready with envSda := [true] }.envSda = true :: [] := by decide

theorem witness_InitAcceptedOnce : State.reset.initDone = false ∧ ready.initDone = true := by decide

theorem witness_TransferDecode :
    (issued.initDone = true ∧ 1 ≤ issued.argLen ∧ issued.argBuf + issued.argLen ≤ issued.params.memSize) ∧
    State.reset.initDone = false ∧ (ready.initDone = true ∧ ready.argLen = 0) ∧
    ({ ready with argBuf := 255, argLen := 2 }.initDone = true ∧ 1 ≤ { ready with argBuf := 255, argLen := 2 }.argLen ∧
      { ready with argBuf := 255, argLen := 2 }.params.memSize < 255 + 2) := by decide

theorem witness_WriteByteDecode :
    (ready.initDone = true ∧ { ready with argAddr := 0x7F }.argAddr.toNat ≤ 0x7F) ∧ State.reset.initDone = false ∧
    0x7F < { ready with argAddr := 0x80 }.argAddr.toNat := by decide

theorem witness_IdleDecodesCommands :
    (ready.fsm = 0x00#6 ∧ ready.cmd = none) ∧ { ready with cmd := some 1 }.cmd = some 0x01#8 ∧ issued.cmd = some 0x02#8 ∧
    { ready with cmd := some 3 }.cmd = some 0x03#8 ∧ (0x04#8 = 0 ∨ 4 ≤ (0x04#8).toNat) ∧ (0x00#8 = 0 ∨ 4 ≤ (0x00#8).toNat) := by
  decide

theorem witness_Wb0BuildsBuffer : { ready with argAddr := 0x7F }.argAddr.toNat ≤ 0x7F := by decide

theorem witness_ClockWaitsPoll :
    (sclPull ready = false ∧ nextScl { ready with envScl := [true] } = true) ∧ sclPull midBit = true ∧
    nextScl { ready with envScl := [false] } = false := by decide

theorem witness_Xf3SamplesWithHighClock :
    (sclPull ready = false ∧ nextScl { ready with envScl := [true] } = true) ∧
    nextScl { ready with envScl := [false] } = false := by decide

theorem witness_BdDispatches :
    ({ midBit with argBuf := 255 }.phase = 0 ∧ bufferHas { midBit with argBuf := 255 } 0 = true) ∧
    { midBit with phase := 1 }.phase = 1 ∧ { midBit with phase := 2 }.phase = 2 ∧ { midBit with phase := 3 }.phase = 3 ∧
    (bufferHas { midBit with argBuf := 256 } 0 = false) := by decide

theorem witness_WritePathSendsBufferByte :
    (bufferHas { midBit with bufsel := true, idx := 1 } 1 = true ∧ { midBit with xret := 1 }.xret.getLsbD 0 = true ∧
      midBit.xret.getLsbD 0 = false) ∧
    bufferHas { midBit with bufsel := true, idx := 2 } 2 = false ∧ bufferHas { midBit with argBuf := 255, idx := 1 } 1 = false := by
  decide

theorem witness_Rd2StoresReceivedByte :
    (acking.bufsel = false ∧ acking.argBuf + acking.idx < acking.params.memSize ∧ Memory.wf acking.mem = true) ∧
    { acking with bufsel := true }.bufsel = true ∧ acking.params.memSize ≤ { acking with argBuf := 255 }.argBuf + acking.idx := by
  decide

theorem witness_Rd4ChoosesAcknowledge : acking.rem = 1 ∧ { acking with rem := 2 }.rem ≠ 1 := by decide

theorem witness_LpCountsByte :
    1 ≤ { midBit with rem := 1, idx := 254 }.rem ∧ { midBit with rem := 1, idx := 254 }.rem < 2 ^ midBit.params.lenBits ∧
    { midBit with rem := 1, idx := 254 }.idx + 1 < 2 ^ midBit.params.lenBits := by decide

theorem witness_HostWriteChecksRange :
    ready.busy = false ∧ ready.cmd = none ∧ 255 < 2 ^ ready.params.addrBits ∧ 2 ^ ready.params.lenBits ≤ 256 ∧
    255 < 0x100 ∧ 0x100 ≤ 256 := by decide

theorem witness_HostWriteOfCommand :
    (ready.busy = false ∧ ready.cmd = none) ∧ (midBit.busy = true ∨ midBit.cmd ≠ none) ∧
    (issued.busy = true ∨ issued.cmd ≠ none) ∧ 0 ≤ 5 ∧ 5 ≤ 5 ∧ 5 < 6 := by decide

theorem witness_HostAccessesMemory :
    255 < ready.params.memSize ∧ Memory.wf ready.mem = true ∧ ready.params.memSize ≤ 256 := by decide

theorem witness_CommandLinesIssue :
    ready.busy = false ∧ ready.cmd = none ∧
    { ready with arrivals := commandEvents .init }.arrivals = commandEvents .init ++ [] ∧
    (255 < 2 ^ ready.params.addrBits ∧ 255 < 2 ^ ready.params.lenBits ∧
      { ready with arrivals := commandEvents (.transfer 255 255) }.arrivals = commandEvents (.transfer 255 255) ++ []) ∧
    (0x50 < 0x100 ∧ 0xAB < 0x100 ∧
      { ready with arrivals := commandEvents (.writeByte 0x50 0xAB) }.arrivals = commandEvents (.writeByte 0x50 0xAB) ++ []) ∧
    (1 < 2 ^ ready.params.lenBits ∧ { ready with arrivals := commandEvents (.probe 0) }.arrivals = commandEvents (.probe 0) ++ []) :=
  ⟨rfl, rfl, rfl, ⟨by decide, by decide, rfl⟩, ⟨by decide, by decide, rfl⟩, ⟨by decide, rfl⟩⟩

theorem witness_RegistersWrittenOnlyByTheirWriters : exec .xf8 midBit = .next { midBit with xret := midBit.dr, fsm := 0x00 } := rfl

theorem witness_RecordsOnlyGrow : step ready = .next ready := rfl

theorem witness_MemoryIsCanonical :
    Memory.wf [(3, 0x12)] = true ∧ ∀ a, memGet [(3, 0x12)] a = memGet [(3, 0x12)] a := ⟨by decide, fun _ => rfl⟩

theorem witness_InvariantHoldsAtReset : Params.vectors.wf = true := by decide

theorem witness_StepKeepsInvariant : Inv ready ∧ step ready = .next ready := ⟨inv_of_check (by decide), rfl⟩

theorem witness_MasterNeverStops : Inv acking ∧ acking.cmd = none := ⟨inv_of_check (by decide), rfl⟩

theorem witness_StartAndStopConditions : Inv ready ∧ masterStep ready = .next ready := ⟨inv_of_check (by decide), rfl⟩

theorem witness_BusLogKeepsGrammar :
    (Inv ready ∧ BusLegal [] ready ∧ step ready = .next ready ∧ ∀ u, dueEvent ready ≠ some (.reset, u)) ∧
    (dueEvent { ready with arrivals := [⟨0, .reset⟩] } = some (.reset, ready) ∧
      ∃ t, step { ready with arrivals := [⟨0, .reset⟩] } = .next t) :=
  ⟨⟨inv_of_check (by decide), ⟨[], rfl, by decide⟩, rfl, fun u h => by cases h⟩, rfl, ⟨_, rfl⟩⟩

/-- At the store of the received byte. -/
def storing : State := { acking with fsm := 0x22, ddrSda := false, xret := 0x12 }

theorem witness_MasterWritesOnlyReadData :
    Inv storing ∧ ∃ t, masterStep storing = .next t ∧ memGet t.mem 1 ≠ memGet storing.mem 1 :=
  ⟨inv_of_check (by decide), _, rfl, by decide⟩

theorem witness_LastReadByteIsNacked :
    Inv acking ∧ acking.fsm = 0x24#6 ∧ acking.idx + 1 = acking.argLen ∧
    Inv { acking with argLen := 3, rem := 2 } ∧ { acking with argLen := 3, rem := 2 }.idx + 1 ≠ 3 :=
  ⟨inv_of_check (by decide), rfl, rfl, inv_of_check (by decide), by decide⟩

theorem witness_WaitsHaveNoBound :
    { ready with fsm := 0x09, envScl := [false, false, true] }.fsm ∈ [0x09#6, 0x2B#6, 0x2E#6, 0x33#6] ∧ ready.arrivals = [] ∧
    { ready with fsm := 0x09, envScl := [false, false, true] }.envScl = List.replicate 2 false ++ (true :: []) ∧
    sclPull ready = false := by decide

theorem witness_OneBitTrace :
    { midBit with fsm := 0x31, envScl := [true] }.fsm = 0x31#6 ∧ midBit.arrivals = [] ∧ midBit.ddrScl = true ∧
    midBit.portScl = false ∧ nextScl { midBit with fsm := 0x31, envScl := [true] } = true := by decide

/-- At XF0 for an acknowledge bit, and for a byte, both with clock stretching. -/
def bitCall : State := { midBit with xn := 1, envScl := [false, false, true], envSda := [true] }
def byteCall : State :=
  { midBit with xn := 8, envScl := [false, true] ++ List.replicate 6 true ++ [false, false, true], envSda := wireBits 0x5A }

theorem witness_XferReturnsSampledBits_bit :
    (1 = 8 ∨ 1 = 1) ∧ bitCall.xn = BitVec.ofNat 4 1 ∧ bitCall.fsm = 0x30#6 ∧ bitCall.arrivals = [] ∧ bitCall.ddrScl = true ∧
    bitCall.portScl = false ∧ [2].length = 1 ∧ [true].length = 1 ∧ bitCall.envScl = stretched [2] ++ [] ∧
    bitCall.envSda = [true] ++ [] := by decide

theorem witness_XferReturnsSampledBits_byte :
    (8 = 8 ∨ 8 = 1) ∧ byteCall.xn = BitVec.ofNat 4 8 ∧ byteCall.fsm = 0x30#6 ∧ byteCall.arrivals = [] ∧
    byteCall.ddrScl = true ∧ byteCall.portScl = false ∧ [1, 0, 0, 0, 0, 0, 0, 2].length = 8 ∧ (wireBits 0x5A).length = 8 ∧
    byteCall.envScl = stretched [1, 0, 0, 0, 0, 0, 0, 2] ++ [] ∧ byteCall.envSda = wireBits 0x5A ++ [] := by decide

theorem witness_WriteTransferSucceeds :
    Inv issued ∧ transferIssued issued ∧ (memGet issued.mem issued.argBuf).getLsbD 0 = false ∧
    [List.replicate 8 true].length = issued.argLen ∧ (∀ w ∈ [List.replicate 8 true], w.length = 8) ∧
    issued.envScl = List.replicate (9 * issued.argLen + 3) true ++ [] ∧
    issued.envSda = [List.replicate 8 true].flatMap (fun w => w ++ [false]) ++ [] :=
  ⟨inv_issued, transferIssued_issued, by decide, rfl, by decide, rfl, rfl⟩

/-- The same, the address byte not acknowledged. -/
def nacked : State :=
  { issued with envScl := List.replicate 10 true, envSda := List.replicate 8 true ++ [true] }

theorem witness_NackAbortsTransfer :
    Inv nacked ∧ transferIssued nacked ∧ 0 < nacked.argLen ∧ ((memGet nacked.mem nacked.argBuf).getLsbD 0 = false ∨ 0 = 0) ∧
    (List.replicate 8 true).length = 8 ∧ nacked.envScl = List.replicate (9 * 0 + 10) true ++ [] ∧
    nacked.envSda = ([] : List (List Bool)).flatMap (fun w => w ++ [false]) ++ List.replicate 8 true ++ [true] ++ [] :=
  ⟨inv_of_check (by decide), by unfold transferIssued; decide, by decide, .inr rfl, rfl, rfl, rfl⟩

/-- A read of one byte, 0xC3, from a slave (95_test_vectors T4). -/
def readIssued : State :=
  { ready with cmd := some 2, argLen := 2, mem := [(0, 0xA1)], envScl := List.replicate 21 true,
               envSda := List.replicate 8 true ++ [false] ++ wireBits 0xC3 ++ [true] }

theorem witness_ReadTransferSucceeds :
    Inv readIssued ∧ transferIssued readIssued ∧ (memGet readIssued.mem readIssued.argBuf).getLsbD 0 = true ∧
    (List.replicate 8 true).length = 8 ∧ [(0xC3#8, true)].length + 1 = readIssued.argLen ∧
    readIssued.envScl = List.replicate (9 * readIssued.argLen + 3) true ++ [] ∧
    readIssued.envSda = List.replicate 8 true ++ [false] ++ [(0xC3#8, true)].flatMap (fun d => wireBits d.1 ++ [d.2]) ++ [] :=
  ⟨inv_of_check (by decide), by unfold transferIssued; decide, by decide, rfl, rfl, rfl, by decide⟩

theorem witness_WriteByteEqualsTransfer :
    Inv twinByte ∧ Twin twinByte twinTransfer ∧ twinByte.fsm ≠ 0x03#6 ∧ twinByte.cmd = none ∧ twinByte.arrivals = [] :=
  ⟨inv_of_check (by decide), ⟨rfl, rfl, by decide, rfl, rfl⟩, by decide, rfl, rfl⟩

end Sys2Proof.Tests
end

/-! The master never stops (00_scope R13). What the decoder and `fetch` answer, which micro-states can stop at all
(BD, WR1, WR5 and RD2, the ones that access the buffer), and why none of them does under the invariant. -/

namespace Sys2Proof.Machine

/-! ### The decoder -/

theorem mem_microRows_of_decodeMicro {c : MicroCode} {i : Instr} (h : decodeMicro c = .ok i) :
    (c, i) ∈ microRows := by
  unfold decodeMicro at h
  split at h
  · rename_i j hj
    cases h
    obtain ⟨l₁, l₂, hl, -⟩ := List.lookup_eq_some_iff.1 hj
    simp [hl]
  · cases h

theorem mem_cmdRows_of_decodeCmd {b : Byte} {i : Instr} (h : decodeCmd b = .ok i) : (b, i) ∈ cmdRows := by
  unfold decodeCmd at h
  split at h
  · rename_i j hj
    cases h
    obtain ⟨l₁, l₂, hl, -⟩ := List.lookup_eq_some_iff.1 hj
    simp [hl]
  · cases h

/-- Each row of the micro-state table holds its instruction's own code (30_encoding R83). -/
theorem encode_of_decodeMicro {c : MicroCode} {i : Instr} (h : decodeMicro c = .ok i) : encode i = .micro c := by
  have hrows : ∀ row ∈ microRows, encode row.2 = .micro row.1 := by decide
  exact hrows (c, i) (mem_microRows_of_decodeMicro h)

theorem decodeCmd_cases {b : Byte} {i : Instr} (h : decodeCmd b = .ok i) :
    i = .init ∨ i = .transfer ∨ i = .writeByte := by
  have hrow := mem_cmdRows_of_decodeCmd h
  simp only [cmdRows, List.mem_cons, Prod.mk.injEq, List.not_mem_nil, or_false] at hrow
  exact hrow.imp And.right (Or.imp And.right And.right)

/-! ### What a master step performs -/

theorem fetch_of_idle {s : State} (hf : s.fsm = Micro.IDLE) (hc : s.cmd = none) : fetch s = .ok .idle := by
  simp [fetch, hf, hc]

theorem fetch_of_micro {s : State} {i : Instr} (hf : s.fsm ≠ Micro.IDLE) (hd : decodeMicro s.fsm = .ok i) :
    fetch s = .ok i := by
  simp only [fetch, if_neg hf, hd]

theorem masterStep_of_fetch_ok {s : State} {i : Instr} (h : fetch s = .ok i) : masterStep s = exec i s := by
  simp only [masterStep, h]

theorem masterStep_of_fetch_error {s : State} {r : Refusal} (h : fetch s = .error r) : masterStep s = refuse r := by
  simp only [masterStep, h]

/-- A stutter (41_initializer R130). -/
theorem exec_idle_next {s : State} (hc : s.cmd = none) : ∃ t, exec .idle s = .next t := by
  simp [exec, execIdle, hc, finish]

/-- A micro-state that does not access the buffer ends in `finish` or polls in `waitSclHigh`, so it completes. -/
theorem exec_next_of_not_buffer {i : Instr} {c : MicroCode} (s : State) (hmicro : encode i = .micro c) (hidle : i ≠ .idle)
    (hbuf : i ∉ [Instr.bd, .wr1, .wr5, .rd2]) : ∃ t, exec i s = .next t := by
  cases i with
  | init | transfer | writeByte => cases hmicro
  | idle => exact absurd rfl hidle
  | bd | wr1 | wr5 | rd2 => exact absurd hbuf (by decide)
  | rd4 =>
    by_cases hrem : s.rem = 1
    · exact ⟨_, if_pos hrem⟩
    · exact ⟨_, if_neg hrem⟩
  | _ => exact ⟨_, rfl⟩

end Sys2Proof.Machine

namespace Sys2Proof.Safety

open Sys2Proof.Machine

/-! ### The buffer under the invariant -/

theorem site_of_fsm {s : State} {c : MicroCode} (hf : s.fsm = c) (hx : inXfer c = false) : site s = c := by
  simp [site, hf, hx]

theorem transferring_of_setUp {c : MicroCode} (h : setUp c = true) : transferring c = true := by
  simp only [transferring, Bool.or_eq_true]
  exact .inr h

/-- While bytes remain, the current byte of the buffer exists. -/
theorem Inv.bufferHas_idx {s : State} {c : MicroCode} (h : Inv s) (hf : s.fsm = c) (hx : inXfer c = false)
    (hset : setUp c = true) (hstop : stopping c = false) : bufferHas s s.idx = true := by
  rw [← hf] at hset
  rw [← site_of_fsm hf hx] at hstop
  obtain ⟨hsum, hrem⟩ := h.count hset
  have hpos : s.rem ≠ 0 := fun h0 => by simp [hrem.1 h0] at hstop
  unfold bufferHas
  unfold transferLength at hsum
  cases hb : s.bufsel with
  | true =>
    simp only [hb, if_true, decide_eq_true_eq] at hsum ⊢
    omega
  | false =>
    have hfit := (h.buffer (transferring_of_setUp hset) hb).2
    simp only [hb, Bool.false_eq_true, if_false, decide_eq_true_eq] at hsum ⊢
    omega

/-- No byte is read into WRITE_BYTE's buffer: its address byte is even (44_write_byte R222). -/
theorem Inv.bufsel_of_read {s : State} (h : Inv s) (htr : transferring s.fsm = true) (hcls : classified (site s) = true)
    (hread : s.phase = Phase.READ) : s.bufsel = false := by
  by_contra hb
  simp only [Bool.not_eq_false] at hb
  have heven : (addressByte s).getLsbD 0 = false := by
    simpa [addressByte, bufferByte, hb] using h.tmpEven htr hb
  have hdir := h.direction hcls
  rw [hread, directionPhase, heven] at hdir
  exact absurd hdir (by decide)

/-! ### The micro-states that access the buffer -/

theorem Inv.exec_bd_next {s : State} (h : Inv s) (hf : s.fsm = Micro.BD) : ∃ t, exec .bd s = .next t := by
  simp only [exec, execBd]
  rcases h.dispatch hf with ⟨hphase, hidx⟩ | ⟨hphase, -⟩
  · have hhas : bufferHas s 0 = true := hidx ▸ h.bufferHas_idx hf rfl rfl rfl
    rw [if_pos hphase, bufRead_of_has hhas]
    exact ⟨_, rfl⟩
  · rw [hphase]
    rcases directionPhase_cases (addressByte s) with ⟨-, hdir⟩ | ⟨-, hdir⟩ <;> rw [hdir] <;> exact ⟨_, rfl⟩

theorem Inv.exec_wr1_next {s : State} (h : Inv s) (hf : s.fsm = Micro.WR1) : ∃ t, exec .wr1 s = .next t := by
  have hhas := h.bufferHas_idx hf rfl rfl rfl
  simp only [exec, execWr1, bufRead_of_has hhas]
  exact ⟨_, rfl⟩

theorem Inv.exec_wr5_next {s : State} (h : Inv s) (hf : s.fsm = Micro.WR5) : ∃ t, exec .wr5 s = .next t := by
  have hhas := h.bufferHas_idx hf rfl rfl rfl
  simp only [exec, execWr5, bufRead_of_has hhas]
  exact ⟨_, rfl⟩

/-- RD2's byte goes to host memory, at an address that exists (20_memory R53). -/
theorem Inv.exec_rd2_next {s : State} (h : Inv s) (hf : s.fsm = Micro.RD2) : ∃ t, exec .rd2 s = .next t := by
  have hsite : site s = Micro.RD2 := site_of_fsm hf rfl
  have hhas := h.bufferHas_idx hf rfl rfl rfl
  have hread := (h.reads (by rw [hsite]; rfl)).1
  have hb := h.bufsel_of_read (by rw [hf]; rfl) (by rw [hsite]; rfl) hread
  have haddr : s.argBuf + s.idx < s.params.memSize := by simpa [bufferHas, hb] using hhas
  exact ⟨_, bufWrite_next.2 ⟨hb, haddr, rfl⟩⟩

/-! ### The master step -/

theorem Inv.exec_micro_next {s : State} {i : Instr} (h : Inv s) (hf : s.fsm ≠ Micro.IDLE)
    (hd : decodeMicro s.fsm = .ok i) : ∃ t, exec i s = .next t := by
  have henc := encode_of_decodeMicro hd
  by_cases hbuf : i ∈ [Instr.bd, .wr1, .wr5, .rd2]
  · simp only [List.mem_cons, List.not_mem_nil, or_false] at hbuf
    rcases hbuf with rfl | rfl | rfl | rfl <;> injection henc with hcode
    · exact h.exec_bd_next hcode.symm
    · exact h.exec_wr1_next hcode.symm
    · exact h.exec_wr5_next hcode.symm
    · exact h.exec_rd2_next hcode.symm
  · refine exec_next_of_not_buffer s henc ?_ hbuf
    rintro rfl
    injection henc with hcode
    exact hf hcode.symm

theorem Inv.masterStep_next {s : State} (h : Inv s) (hc : s.cmd = none) : ∃ t, masterStep s = .next t := by
  by_cases hf : s.fsm = Micro.IDLE
  · rw [masterStep_of_fetch_ok (fetch_of_idle hf hc)]
    exact exec_idle_next hc
  · obtain ⟨i, hd⟩ := h.code
    rw [masterStep_of_fetch_ok (fetch_of_micro hf hd)]
    exact h.exec_micro_next hf hd

/-- The result is no fault and no InternalError refusal: what 00_scope R13 and 60_exceptions R233 say of the master. -/
def NoStop (r : Result) : Prop := (∀ f, r ≠ .fault f) ∧ r ≠ .refused .internalError

theorem noStop_next (t : State) : NoStop (.next t) := by simp [NoStop]

theorem noStop_refuse {r : Refusal} (h : r ≠ .internalError) : NoStop (refuse r) := by simp [NoStop, refuse, h]

/-- A command is accepted, or refused for one of the host's reasons (60_exceptions R235). -/
theorem noStop_exec_of_decodeCmd {b : Byte} {i : Instr} (s : State) (h : decodeCmd b = .ok i) : NoStop (exec i s) := by
  rcases decodeCmd_cases h with rfl | rfl | rfl
  · simp only [exec, execInit]
    split
    · exact noStop_refuse (by decide)
    · exact noStop_next _
  · simp only [exec, execTransfer]
    split_ifs
    · exact noStop_refuse (by decide)
    · exact noStop_refuse (by decide)
    · exact noStop_refuse (by decide)
    · exact noStop_next _
  · simp only [exec, execWriteByte]
    split_ifs
    · exact noStop_refuse (by decide)
    · exact noStop_refuse (by decide)
    · exact noStop_next _

theorem noStop_masterStep_of_idle {s : State} (hf : s.fsm = Micro.IDLE) : NoStop (masterStep s) := by
  cases hfetch : fetch s with
  | ok i =>
    rw [masterStep_of_fetch_ok hfetch]
    rcases fetch_ok hfetch with ⟨-, hc, rfl⟩ | ⟨-, b, -, hd⟩ | ⟨hne, -⟩
    · obtain ⟨t, ht⟩ := exec_idle_next hc
      exact ht ▸ noStop_next t
    · exact noStop_exec_of_decodeCmd s hd
    · exact absurd hf hne
  | error r =>
    rw [masterStep_of_fetch_error hfetch]
    rcases fetch_error hfetch with ⟨-, rfl⟩ | ⟨hne, -, -⟩
    · exact noStop_refuse (by decide)
    · exact absurd hf hne

theorem Inv.noStop_masterStep {s : State} (h : Inv s) : NoStop (masterStep s) := by
  cases hc : s.cmd with
  | none =>
    obtain ⟨t, ht⟩ := h.masterStep_next hc
    exact ht ▸ noStop_next t
  | some b => exact noStop_masterStep_of_idle (h.pending (by simp [hc]))

/-- Settles O47: outside IDLE only BD, WR1, WR5 and RD2 could stop, and the invariant gives each of them its buffer byte;
a pending command stands in IDLE only, where the refusals are the host's. -/
theorem masterNeverStops : Obligations.MasterNeverStops := fun _ h => ⟨h.masterStep_next, h.noStop_masterStep⟩

end Sys2Proof.Safety

/-! Which register each instruction writes (10_state R44) and what every step leaves of the records (R42, R43): first what
a completed step of the commands and of BD has done, then one case split over the instructions for each statement. -/

namespace Sys2Proof.Machine

/-! ### What a completed decode or dispatch has done -/

/-- A command byte that names a command is performed by IDLE's step (41_initializer R130). -/
theorem fetch_of_command {s : State} {c : Byte} {i : Instr} (hf : s.fsm = Micro.IDLE) (hc : s.cmd = some c)
    (hd : decodeCmd c = .ok i) : fetch s = .ok i := by
  simp only [fetch, hf, hc, hd, if_true]

theorem execInit_next {s t : State} :
    execInit s = .next t ↔ s.initDone = false ∧ t = settle s (goto Micro.IN0 (accept s)) := by
  unfold execInit
  cases s.initDone <;> simp [refuse_next, finish_next]

theorem execTransfer_next {s t : State} :
    execTransfer s = .next t ↔ s.initDone = true ∧ s.argLen ≠ 0 ∧ s.argBuf + s.argLen ≤ s.params.memSize ∧
      t = settle s (goto Micro.TR0 { accept s with bufsel := false }) := by
  unfold execTransfer
  split_ifs with hinit hlen hbuf
  · simp_all [refuse_next]
  · simp_all [refuse_next]
  · simp only [refuse_next, false_iff]
    omega
  · simp_all [finish_next]

theorem execWriteByte_next {s t : State} :
    execWriteByte s = .next t ↔ s.initDone = true ∧ s.argAddr.toNat ≤ 0x7F ∧
      t = settle s (goto Micro.WB0 (accept s)) := by
  unfold execWriteByte
  split_ifs with hinit haddr
  · simp_all [refuse_next]
  · simp only [refuse_next, false_iff]
    omega
  · simp_all [finish_next]

/-- IDLE stutters, or performs the pending command (41_initializer R130). -/
theorem execIdle_next {s t : State} (he : execIdle s = .next t) :
    (s.cmd = none ∧ t = settle s (goto Micro.IDLE s)) ∨ execInit s = .next t ∨ execTransfer s = .next t ∨
      execWriteByte s = .next t := by
  unfold execIdle at he
  split at he
  · rename_i hc
    exact .inl ⟨hc, finish_next.1 he⟩
  · split_ifs at he
    · exact .inr (.inl he)
    · exact .inr (.inr (.inl he))
    · exact .inr (.inr (.inr he))
    · exact absurd he (by simp [refuse_next])

/-- Whatever a decode does, it writes the acceptance and, for TRANSFER only, BUFSEL. -/
theorem exec_decode_next {i : Instr} {s t : State} (hi : i ∈ [Instr.idle, .init, .transfer, .writeByte])
    (he : exec i s = .next t) :
    ∃ u k, t = settle s (goto k u) ∧ k ∈ [Micro.IDLE, Micro.IN0, Micro.TR0, Micro.WB0] ∧
      (u = s ∨ u = accept s ∨ (i ∈ [Instr.idle, .transfer] ∧ u = { accept s with bufsel := false })) := by
  have hdecode : t = settle s (goto Micro.IDLE s) ∨ execInit s = .next t ∨
      (i ∈ [Instr.idle, .transfer] ∧ execTransfer s = .next t) ∨ execWriteByte s = .next t := by
    cases i with
    | idle => exact (execIdle_next he).imp And.right (Or.imp_right (Or.imp_left fun he => ⟨by decide, he⟩))
    | init => exact .inr (.inl he)
    | transfer => exact .inr (.inr (.inl ⟨by decide, he⟩))
    | writeByte => exact .inr (.inr (.inr he))
    | _ => exact absurd hi (by decide)
  rcases hdecode with ht | he | ⟨hi, he⟩ | he
  · exact ⟨_, _, ht, by decide, .inl rfl⟩
  · exact ⟨_, _, (execInit_next.1 he).2, by decide, .inr (.inl rfl)⟩
  · obtain ⟨-, -, -, ht⟩ := execTransfer_next.1 he
    exact ⟨_, _, ht, by decide, .inr (.inr ⟨hi, rfl⟩)⟩
  · obtain ⟨-, -, ht⟩ := execWriteByte_next.1 he
    exact ⟨_, _, ht, by decide, .inr (.inl rfl)⟩

/-- BD classifies the direction on its first visit and goes to the write path; later it dispatches (43_transfer_fsm R169). -/
theorem execBd_next {s t : State} (he : execBd s = .next t) :
    (s.phase = Phase.ADDRESS ∧ ∃ b, bufRead s 0 = .ok b ∧
      t = settle s (goto Micro.WR0 { s with phase := directionPhase b })) ∨
    (s.phase = Phase.WRITE ∧ t = settle s (goto Micro.WR0 s)) ∨
    (s.phase = Phase.READ ∧ t = settle s (goto Micro.RD0 s)) := by
  unfold execBd at he
  split_ifs at he with haddr hwrite hread
  · obtain ⟨b, hb, ht⟩ := onAccess_next.1 he
    exact .inl ⟨haddr, b, hb, finish_next.1 ht⟩
  · exact .inr (.inl ⟨hwrite, finish_next.1 he⟩)
  · exact .inr (.inr ⟨hread, finish_next.1 he⟩)
  · exact absurd he (by simp [refuse_next])

/-- RD4 loads the acknowledge and logs the byte with it (43_transfer_fsm R184). -/
theorem execRd4_next {s t : State} (he : execRd4 s = .next t) :
    ∃ v nack, t = settle s (goto Micro.RD5 (logBus (.rx s.xret nack) (loadDr v s))) := by
  unfold execRd4 at he
  split_ifs at he
  · exact ⟨_, _, finish_next.1 he⟩
  · exact ⟨_, _, finish_next.1 he⟩

/-- The sample writes SBIT and one record, beside the draw (42_bit_byte_transfer R144). -/
theorem sampleSda_eq (s : State) : sampleSda s =
    { takeSda s with
      sbit := sdaLevel s (nextSda s)
      trace := s.trace ++ [.sample (sdaLevel s (nextSda s))] } := rfl

/-- The falling edge and the shift together (42_bit_byte_transfer R146). -/
theorem shift_strobe_eq (b : Bool) (s : State) : shift b (strobe s) =
    { s with
      portScl := !s.portScl
      cnt := s.cnt + 1
      oif := s.oif || s.cnt == 15
      cr := 0x2A
      dr := shiftByte s.dr b } := rfl

/-! ### The writers of each register -/

/-- Settles O42: each instruction's completed step is a record update of the state before it. -/
theorem registersWrittenOnlyByTheirWriters : Obligations.RegistersWrittenOnlyByTheirWriters := by
  intro i s t he
  cases i with
  | idle | init | transfer | writeByte =>
    obtain ⟨u, k, rfl, -, rfl | rfl | ⟨hi, rfl⟩⟩ := exec_decode_next (by decide) he
    · simp
    · simp
    · simp at hi ⊢
  | bd => rcases execBd_next he with ⟨-, b, -, rfl⟩ | ⟨-, rfl⟩ | ⟨-, rfl⟩ <;> simp
  | wr1 | wr5 =>
    obtain ⟨b, -, ht⟩ := onAccess_next.1 he
    cases ht
    simp
  | rd2 =>
    obtain ⟨-, -, ht⟩ := bufWrite_next.1 he
    cases ht
    simp
  | rd4 =>
    obtain ⟨v, nack, rfl⟩ := execRd4_next he
    simp
  | st1 | sp3 | sp6 | xf3 => rcases waitSclHigh_next he with ⟨-, rfl⟩ | ⟨-, rfl⟩ <;> simp [sampleSda_eq]
  | st0 | st3 | st4 | st6 | wr0 | wr3 | wr6 | nk0 | nk1 | rd0 | rd3 | sp0 | sp2 | sp5 =>
    cases he
    simp [driveHigh_scl, driveLow_scl, driveLow_sda, releaseHigh_scl, releaseHigh_sda, setInput_scl, setInput_sda,
      setOutput_sda]
  | in0 =>
    cases he
    simp [driveHigh_scl, driveHigh_sda, writeCr, CR_TWI, writeSr, loadDr]
  | xf0 =>
    cases he
    simp [arm, writeSr]
  | xf5 =>
    cases he
    simp [shift_strobe_eq]
  | _ =>
    cases he
    simp

/-! ### The logs of a master step -/

theorem trace_prefix_settle (b : State) {s t : State} (h : s.trace <+: t.trace) : s.trace <+: (settle b t).trace :=
  h.trans (List.prefix_append _ _)

/-- A master step appends to TRACE: the wait's and the sample's entries, then the lines' (40_line_primitives R117). -/
theorem exec_extends_trace {i : Instr} {s t : State} (he : exec i s = .next t) : s.trace <+: t.trace := by
  cases i with
  | idle | init | transfer | writeByte =>
    obtain ⟨u, k, rfl, -, rfl | rfl | ⟨-, rfl⟩⟩ := exec_decode_next (by decide) he <;> exact List.prefix_append _ _
  | bd => rcases execBd_next he with ⟨-, b, -, rfl⟩ | ⟨-, rfl⟩ | ⟨-, rfl⟩ <;> exact List.prefix_append _ _
  | wr1 | wr5 =>
    obtain ⟨b, -, ht⟩ := onAccess_next.1 he
    cases ht
    exact List.prefix_append _ _
  | rd2 =>
    obtain ⟨-, -, ht⟩ := bufWrite_next.1 he
    cases ht
    exact List.prefix_append _ _
  | rd4 =>
    obtain ⟨v, nack, rfl⟩ := execRd4_next he
    exact List.prefix_append _ _
  | st1 | sp3 | sp6 | xf3 =>
    rcases waitSclHigh_next he with ⟨-, rfl⟩ | ⟨-, rfl⟩ <;> exact trace_prefix_settle _ (by simp [sampleSda_eq])
  | _ =>
    cases he
    exact List.prefix_append _ _

/-- A master step appends to BUSLOG: only ST3, WR5, NK2, RD4 and SP5 log (30_encoding R91). -/
theorem exec_extends_buslog {i : Instr} {s t : State} (he : exec i s = .next t) : s.buslog <+: t.buslog := by
  by_cases hsame : t.buslog = s.buslog
  · rw [hsame]
  cases i with
  | st3 | nk2 | sp5 =>
    cases he
    exact List.prefix_append _ _
  | wr5 =>
    obtain ⟨b, -, ht⟩ := onAccess_next.1 he
    cases ht
    exact List.prefix_append _ _
  | rd4 =>
    obtain ⟨v, nack, rfl⟩ := execRd4_next he
    exact List.prefix_append _ _
  | _ =>
    have hwriter := (registersWrittenOnlyByTheirWriters _ s t he)
    simp [hsame] at hwriter

end Sys2Proof.Machine

namespace Sys2Proof.Machine

/-! ### What an instruction leaves unchanged -/

theorem notMem_of_subset {l l' : List Instr} {i : Instr} (hsub : l' ⊆ l) (hi : i ∉ l) : i ∉ l' :=
  fun hmem => hi (hsub hmem)

theorem notMem_of_disjoint {l l' : List Instr} {i : Instr} (hdis : ∀ j ∈ l, j ∉ l') (hi : i ∈ l) : i ∉ l' :=
  hdis i hi

/-- What an instruction leaves unchanged: a register that it is not a writer of (10_state R44), in the form the other
proofs use. -/
structure Frame (i : Instr) (s t : State) : Prop where
  params : t.params = s.params
  refused : t.refused = s.refused
  hostReads : t.hostReads = s.hostReads
  argBuf : t.argBuf = s.argBuf
  argLen : t.argLen = s.argLen
  xcont : i ∉ [Instr.wr2, .wr4, .rd1, .rd5] → t.xcont = s.xcont
  xn : i ∉ [Instr.wr2, .wr4, .rd1, .rd5] → t.xn = s.xn
  dr : i ∉ [Instr.in0, .wr1, .rd4, .xf5] → t.dr = s.dr
  cnt : i ∉ [Instr.in0, .xf0, .xf2, .xf5] → t.cnt = s.cnt
  oif : i ∉ [Instr.in0, .xf0, .xf2, .xf5] → t.oif = s.oif
  cr : i ∉ [Instr.in0, .xf2, .xf5] → t.cr = s.cr
  portScl : i ∉ [Instr.in0, .st0, .st4, .wr0, .nk0, .xf2, .xf5] → t.portScl = s.portScl
  ddrScl : i ∉ [Instr.in0, .st0, .st4, .wr0, .sp2] → t.ddrScl = s.ddrScl
  portSda : i ∉ [Instr.in0, .st3, .st6, .nk1, .sp0] → t.portSda = s.portSda
  ddrSda : i ∉ [Instr.in0, .st3, .wr3, .wr6, .rd0, .rd3, .sp0, .sp5] → t.ddrSda = s.ddrSda
  phase : i ∉ [Instr.tr0, .bd] → t.phase = s.phase
  bufsel : i ∉ [Instr.idle, .transfer, .wb0] → t.bufsel = s.bufsel
  rem : i ∉ [Instr.tr0, .lp] → t.rem = s.rem
  idx : i ∉ [Instr.tr0, .lp] → t.idx = s.idx
  tmp0 : i ≠ .wb0 → t.tmp0 = s.tmp0
  busy : i ∉ [Instr.idle, .init, .transfer, .writeByte, .in0, .nk2, .sp7] → t.busy = s.busy
  initDone : i ≠ .in0 → t.initDone = s.initDone
  cmd : i ∉ [Instr.idle, .init, .transfer, .writeByte] → t.cmd = s.cmd
  mem : i ≠ .rd2 → t.mem = s.mem

theorem exec_frame {i : Instr} {s t : State} (he : exec i s = .next t) : Frame i s t := by
  obtain ⟨hcall, hdr, hcount, -, hcr, hportScl, hddrScl, hportSda, hddrSda, hphase, hbufsel, hlen, -, -, htmp, -, hbusy,
    hinit, hcmd, hmem, -, -, -, -, hbuf, hargLen, -, -, hparams, hrefused, -, hreads⟩ :=
    registersWrittenOnlyByTheirWriters i s t he
  exact {
    params := hparams
    refused := hrefused
    hostReads := hreads
    argBuf := hbuf
    argLen := hargLen
    xcont := fun hi => by_contra fun hne => hi (hcall (.inl hne))
    xn := fun hi => by_contra fun hne => hi (hcall (.inr hne))
    dr := fun hi => by_contra fun hne => hi (hdr hne)
    cnt := fun hi => by_contra fun hne => hi (hcount (.inl hne))
    oif := fun hi => by_contra fun hne => hi (hcount (.inr hne))
    cr := fun hi => by_contra fun hne => hi (hcr hne)
    portScl := fun hi => by_contra fun hne => hi (hportScl hne)
    ddrScl := fun hi => by_contra fun hne => hi (hddrScl hne)
    portSda := fun hi => by_contra fun hne => hi (hportSda hne)
    ddrSda := fun hi => by_contra fun hne => hi (hddrSda hne)
    phase := fun hi => by_contra fun hne => hi (hphase hne)
    bufsel := fun hi => by_contra fun hne => hi (hbufsel hne)
    rem := fun hi => by_contra fun hne => hi (hlen (.inl hne))
    idx := fun hi => by_contra fun hne => hi (hlen (.inr hne))
    tmp0 := fun hi => by_contra fun hne => hi (htmp (.inl hne))
    busy := fun hi => by_contra fun hne => hi (hbusy hne)
    initDone := fun hi => by_contra fun hne => hi (hinit hne)
    cmd := fun hi => by_contra fun hne => hi (hcmd hne)
    mem := fun hi => by_contra fun hne => hi (hmem hne) }

/-! ### The records along a step -/

/-- A reset adds at most the lines' entry to TRACE (70_reset_and_hazards R260). -/
theorem resetEvent_extends_trace (s : State) : s.trace <+: (resetEvent s).trace := List.prefix_append _ _

/-- A port write leaves the records and the parameters alone. -/
theorem hostWrite_keeps_records {s t : State} {o v : Nat} (h : hostWrite s o v = .next t) :
    t.buslog = s.buslog ∧ t.trace = s.trace ∧ t.hostReads = s.hostReads ∧ t.refused = s.refused ∧
      t.params = s.params := by
  obtain ⟨-, hcases⟩ := hostWrite_next h
  rcases hcases with ⟨-, -, rfl⟩ | ⟨-, -, rfl⟩ | ⟨-, -, rfl⟩ | ⟨-, -, rfl⟩ | ⟨-, -, rfl⟩ <;> simp

/-- The records of `t` extend those of `s`, and REFUSED and the parameters are the same (10_state R42, R43). -/
def ExtendsRecords (s t : State) : Prop :=
  s.buslog <+: t.buslog ∧ s.trace <+: t.trace ∧ s.hostReads <+: t.hostReads ∧ t.refused = s.refused ∧
    t.params = s.params

theorem perform_extendsRecords {s t : State} {e : Event} (h : perform s e = .next t) : ExtendsRecords s t := by
  rcases perform_next h with ⟨o, v, -, hw⟩ | ⟨r, rfl⟩ | ⟨a, v, -, -, rfl⟩ | ⟨-, rfl⟩
  · obtain ⟨hbus, htrace, hreads, hrest⟩ := hostWrite_keeps_records hw
    unfold ExtendsRecords
    rw [hbus, htrace, hreads]
    exact ⟨List.prefix_rfl, List.prefix_rfl, List.prefix_rfl, hrest⟩
  · exact ⟨List.prefix_rfl, List.prefix_rfl, List.prefix_append _ _, rfl, rfl⟩
  · exact ⟨List.prefix_rfl, List.prefix_rfl, List.prefix_rfl, rfl, rfl⟩
  · exact ⟨List.prefix_rfl, resetEvent_extends_trace s, List.prefix_rfl, rfl, rfl⟩

theorem exec_extendsRecords {i : Instr} {s t : State} (he : exec i s = .next t) : ExtendsRecords s t := by
  have hframe := exec_frame he
  exact ⟨exec_extends_buslog he, exec_extends_trace he, hframe.hostReads ▸ List.prefix_rfl, hframe.refused,
    hframe.params⟩

/-- Settles O43: an event appends to one record at most, a tick touches none, and a master step appends to BUSLOG and
TRACE. -/
theorem recordsOnlyGrow : Obligations.RecordsOnlyGrow := by
  intro s t h
  rcases step_cases s with ⟨e, u, hdue, hstep⟩ | ⟨-, hstep⟩
  · obtain ⟨-, rest, -, rfl⟩ := dueEvent_some hdue
    have hrec : ExtendsRecords { s with arrivals := rest } t := perform_extendsRecords (hstep ▸ h)
    exact hrec
  · obtain ⟨i, -, he⟩ := masterStep_next (hstep ▸ h)
    have hrec := exec_extendsRecords he
    rw [tick_eq] at hrec
    exact hrec

/-! ### The step and the reset state -/

/-- Settles O4: without a due event the step is the master's, and `fetch` answers the instruction it finds. -/
theorem stepPerformsDecodedInstruction : Obligations.StepPerformsDecodedInstruction := by
  have hmaster : ∀ {s : State} {i : Instr}, dueEvent s = none → fetch (tick s) = .ok i → step s = exec i (tick s) := by
    intro s i hdue hfetch
    rw [step, hdue]
    exact masterStep_of_fetch_ok hfetch
  refine ⟨fun s hdue hf hc => hmaster hdue ?_, fun s c i hdue hf hc hd => hmaster hdue ?_,
    fun s i hdue hf hd => hmaster hdue ?_, fun s harr => ?_, tick_eq⟩
  · rw [tick_eq]
    exact fetch_of_idle hf hc
  · rw [tick_eq]
    exact fetch_of_command hf hc hd
  · rw [tick_eq]
    exact fetch_of_micro hf hd
  · simp [dueEvent, tick, harr]

/-- Settles O8: each value stands in `State.resetWith` (10_state R45). -/
theorem resetLeavesSpecValues : Obligations.ResetLeavesSpecValues := by
  refine ⟨rfl, fun p s hs => ?_⟩
  subst hs
  simp [State.resetWith]

end Sys2Proof.Machine

/-! ### The invariant outside a transfer -/

namespace Sys2Proof.Safety

open Sys2Proof.Machine

/-- The records, the environment's answers and the coming events are not part of the invariant. -/
theorem Inv.of_same_registers {s t : State} (h : Inv s)
    (ht : t = { s with
      buslog := t.buslog, trace := t.trace, refused := t.refused, envScl := t.envScl, envSda := t.envSda, draws := t.draws
      arrivals := t.arrivals, hostReads := t.hostReads }) : Inv t := by
  rw [ht]
  exact { h with }

theorem exists_decodeMicro_of_isOk {c : MicroCode} (h : (decodeMicro c).isOk = true) : ∃ i, decodeMicro c = .ok i := by
  cases hd : decodeMicro c with
  | ok i => exact ⟨i, rfl⟩
  | error e => simp [hd, Except.isOk, Except.toBool] at h

/-- Outside XF1 to XF8 nothing is known of the counter (42_bit_byte_transfer R152). -/
theorem counting_of_not_counting {c : MicroCode} (xn cnt : BitVec 4) (oif : Bool)
    (hc : c ∉ [Micro.XF1, Micro.XF2, Micro.XF3, Micro.XF4, Micro.XF5, Micro.XF6, Micro.XF7, Micro.XF8]) :
    counting c xn cnt oif = true := by
  simp only [List.mem_cons, List.not_mem_nil, or_false, not_or] at hc
  simp [counting, hc]

/-- Before a transfer is set up the lines are released, and only TR0 knows anything of the buffer (41_initializer R136). -/
theorem inv_of_not_setUp {s : State} (hf : s.fsm ∈ [Micro.IDLE, Micro.IN0, Micro.TR0, Micro.WB0])
    (hparams : s.params.wf = true) (hmem : Memory.wf s.mem = true ∧ ∀ c ∈ s.mem, c.1 < s.params.memSize)
    (hbusy : s.busy = !decide (s.fsm = Micro.IDLE)) (hcmd : s.cmd.isSome = true → s.fsm = Micro.IDLE)
    (hcr : s.initDone = true → s.cr = 0x2A)
    (hinit : s.fsm ≠ Micro.IDLE → s.initDone = !decide (s.fsm = Micro.IN0))
    (hscl : sclPull s = false) (hsda : sdaPull s = false)
    (hwidths : s.argBuf < 2 ^ s.params.addrBits ∧ s.argLen < 2 ^ s.params.lenBits ∧ s.rem < 2 ^ s.params.lenBits ∧
      s.idx < 2 ^ s.params.lenBits)
    (hbuf : s.fsm = Micro.TR0 → s.bufsel = false ∧ 1 ≤ s.argLen ∧ s.argBuf + s.argLen ≤ s.params.memSize) : Inv s := by
  have hplace : ∀ c ∈ [Micro.IDLE, Micro.IN0, Micro.TR0, Micro.WB0],
      inXfer c = false ∧ setUp c = false ∧ classified c = false ∧ writing c = false ∧ reading c = false ∧
        c ≠ Micro.BD ∧ (transferring c = true → c = Micro.TR0) ∧ sclLatches c = none ∧ sdaLatches c = none ∧
        (decodeMicro c).isOk = true ∧
        c ∉ [Micro.XF1, Micro.XF2, Micro.XF3, Micro.XF4, Micro.XF5, Micro.XF6, Micro.XF7, Micro.XF8] := by decide
  obtain ⟨hx, hset, hcls, hwr, hrd, hbd, htr, hsclL, hsdaL, hcode, hcnt⟩ := hplace _ hf
  have hsite : site s = s.fsm := site_of_fsm rfl hx
  exact {
    params := hparams
    memory := hmem
    code := exists_decodeMicro_of_isOk hcode
    busy := hbusy
    pending := hcmd
    control := hcr
    initialised := hinit
    call := by simp [hx]
    counter := counting_of_not_counting _ _ _ hcnt
    scl := by simp [hsclL, hscl, latched]
    sda := by simp [hsite, hsdaL, hsda, latched]
    widths := hwidths
    buffer := fun h _ => (hbuf (htr h)).2
    tmpEven := fun h hb => by simp [(hbuf (htr h)).1] at hb
    count := by simp [hset]
    first := by simp [hset]
    dispatch := fun h => absurd h hbd
    direction := by simp [hsite, hcls]
    writes := by simp [hsite, hwr]
    reads := by simp [hsite, hrd] }

/-- A byte written at an address that exists. -/
theorem Inv.memPut_canonical {s : State} {a : Nat} {v : Byte} (h : Inv s) (ha : a < s.params.memSize) :
    Memory.wf (memPut s.mem a v) = true ∧ ∀ c ∈ memPut s.mem a v, c.1 < s.params.memSize := by
  obtain ⟨hwf, hrange⟩ := h.memory
  refine ⟨memPut_wf a v hwf, fun c hc => ?_⟩
  rcases mem_memPut hc with hc | rfl
  · exact hrange c hc
  · exact ha

/-- The reset registers with any host memory of canonical form. -/
theorem inv_resetWith {p : Params} {m : Memory} (hp : p.wf = true)
    (hm : Memory.wf m = true ∧ ∀ c ∈ m, c.1 < p.memSize) : Inv { State.resetWith p with mem := m } := by
  have hpos : ∀ n : Nat, 0 < 2 ^ n := fun n => Nat.two_pow_pos n
  exact inv_of_not_setUp (by simp [State.resetWith]) hp hm rfl (by simp [State.resetWith]) (by simp [State.resetWith])
    (by simp [State.resetWith]) rfl rfl ⟨hpos _, hpos _, hpos _, hpos _⟩ (by simp [State.resetWith])

/-- Settles O45: the reset state idles with both lines released, every register at zero and host memory empty. -/
theorem invariantHoldsAtReset : Obligations.InvariantHoldsAtReset :=
  fun _ hp => inv_resetWith hp ⟨rfl, by simp⟩

theorem Inv.of_resetEvent {s : State} (h : Inv s) : Inv (resetEvent s) :=
  (inv_resetWith h.params h.memory).of_same_registers rfl

/-- In IDLE both lines are released (41_initializer R136). -/
theorem Inv.released_of_idle {s : State} (h : Inv s) (hf : s.fsm = Micro.IDLE) :
    sclPull s = false ∧ sdaPull s = false := by
  have hscl := h.scl
  have hsda := h.sda
  rw [site_of_fsm hf rfl] at hsda
  rw [hf] at hscl
  simpa [latched, sclLatches, sdaLatches] using And.intro hscl hsda

/-- The registers a port write can reach may hold any value of their widths while the block idles. -/
theorem Inv.of_writeOperands {s : State} (h : Inv s) (hf : s.fsm = Micro.IDLE) (cmd : Option Byte) (addr data : Byte)
    {buf len : Nat} (hbuf : buf < 2 ^ s.params.addrBits) (hlen : len < 2 ^ s.params.lenBits) :
    Inv { s with cmd := cmd, argAddr := addr, argData := data, argBuf := buf, argLen := len } := by
  obtain ⟨hscl, hsda⟩ := h.released_of_idle hf
  obtain ⟨-, -, hrem, hidx⟩ := h.widths
  exact inv_of_not_setUp (by simp [hf]) h.params h.memory h.busy (fun _ => hf) h.control h.initialised hscl hsda
    ⟨hbuf, hlen, hrem, hidx⟩ (by simp [hf])

theorem Inv.of_hostWrite {s t : State} {o v : Nat} (h : Inv s) (hw : hostWrite s o v = .next t) : Inv t := by
  obtain ⟨hlock, hcases⟩ := hostWrite_next hw
  have hf : s.fsm = Micro.IDLE := by
    have hbusy := h.busy
    simp only [portLocked, Bool.or_eq_false_iff] at hlock
    simpa [hlock.1] using hbusy
  obtain ⟨hbuf, hlen, -, -⟩ := h.widths
  rcases hcases with ⟨-, -, rfl⟩ | ⟨-, -, rfl⟩ | ⟨-, -, rfl⟩ | ⟨-, hv, rfl⟩ | ⟨-, hv, rfl⟩
  · exact h.of_writeOperands hf _ _ _ hbuf hlen
  · exact h.of_writeOperands hf _ _ _ hbuf hlen
  · exact h.of_writeOperands hf _ _ _ hbuf hlen
  · exact h.of_writeOperands hf _ _ _ hv hlen
  · exact h.of_writeOperands hf _ _ _ hbuf hv

/-- An accepted command leaves IDLE with the lines as they were (41_initializer R130). -/
theorem Inv.of_accept {s : State} (h : Inv s) (hf : s.fsm = Micro.IDLE) {k : MicroCode} {b : Bool}
    (hk : k ∈ [Micro.IN0, Micro.TR0, Micro.WB0]) (hinit : s.initDone = !decide (k = Micro.IN0))
    (hbuf : k = Micro.TR0 → b = false ∧ 1 ≤ s.argLen ∧ s.argBuf + s.argLen ≤ s.params.memSize) :
    Inv (settle s (goto k { accept s with bufsel := b })) := by
  obtain ⟨hscl, hsda⟩ := h.released_of_idle hf
  have hidle : k ≠ Micro.IDLE := by
    rintro rfl
    exact absurd hk (by decide)
  exact inv_of_not_setUp (List.mem_cons_of_mem _ hk) h.params h.memory (by simp [hidle]) (by simp) h.control
    (fun _ => hinit) hscl hsda h.widths hbuf

/-- The decode of a pending command keeps the invariant. -/
theorem Inv.of_exec_command {s t : State} {i : Instr} (h : Inv s) (hf : s.fsm = Micro.IDLE)
    (hi : i = .init ∨ i = .transfer ∨ i = .writeByte) (he : exec i s = .next t) : Inv t := by
  rcases hi with rfl | rfl | rfl
  · obtain ⟨hinit, rfl⟩ := execInit_next.1 he
    exact h.of_accept hf (by decide) (by simp [hinit]) (by simp)
  · obtain ⟨hinit, hlen, hfit, rfl⟩ := execTransfer_next.1 he
    exact h.of_accept hf (by decide) (by simp [hinit]) fun _ => ⟨rfl, by omega, hfit⟩
  · obtain ⟨hinit, -, rfl⟩ := execWriteByte_next.1 he
    exact h.of_accept hf (by decide) (by simp [hinit]) (by simp)

theorem Inv.of_exec_idle {s t : State} (h : Inv s) (hf : s.fsm = Micro.IDLE) (hc : s.cmd = none)
    (he : exec .idle s = .next t) : Inv t := by
  have hstutter : exec .idle s = .next s := by
    simp only [exec, execIdle, hc]
    rw [finish_of_same rfl rfl, ← hf]
  rw [hstutter] at he
  cases he
  exact h

end Sys2Proof.Safety

/-! ### Where the master goes next -/

namespace Sys2Proof.Safety

open Sys2Proof.Machine

/-- The micro-states an instruction can go to; XFER returns to one of its four call sites (42_bit_byte_transfer R140). -/
def successors (i : Instr) : List MicroCode :=
  match i with
  | .idle | .init | .transfer | .writeByte => [Micro.IDLE, Micro.IN0, Micro.TR0, Micro.WB0]
  | .in0 => [Micro.IDLE]
  | .tr0 => [Micro.ST0]
  | .wb0 => [Micro.TR0]
  | .st0 => [Micro.ST1]
  | .st1 => [Micro.ST1, Micro.ST2]
  | .st2 => [Micro.ST3]
  | .st3 => [Micro.ST4]
  | .st4 => [Micro.ST5]
  | .st5 => [Micro.ST6]
  | .st6 => [Micro.BD]
  | .bd => [Micro.WR0, Micro.RD0]
  | .wr0 => [Micro.WR1]
  | .wr1 => [Micro.WR2]
  | .wr3 => [Micro.WR4]
  | .wr5 => [Micro.WR6, Micro.NK0]
  | .wr6 => [Micro.LP]
  | .nk0 => [Micro.NK1]
  | .nk1 => [Micro.NK2]
  | .nk2 => [Micro.IDLE]
  | .rd0 => [Micro.RD1]
  | .rd2 => [Micro.RD3]
  | .rd3 => [Micro.RD4]
  | .rd4 => [Micro.RD5]
  | .wr2 | .wr4 | .rd1 | .rd5 => [Micro.XF0]
  | .lp => [Micro.BD, Micro.SP0]
  | .sp0 => [Micro.SP1]
  | .sp1 => [Micro.SP2]
  | .sp2 => [Micro.SP3]
  | .sp3 => [Micro.SP3, Micro.SP4]
  | .sp4 => [Micro.SP5]
  | .sp5 => [Micro.SP6]
  | .sp6 => [Micro.SP6, Micro.SP7]
  | .sp7 => [Micro.IDLE]
  | .xf0 => [Micro.XF1]
  | .xf1 => [Micro.XF2]
  | .xf2 => [Micro.XF3]
  | .xf3 => [Micro.XF3, Micro.XF4]
  | .xf4 => [Micro.XF5]
  | .xf5 => [Micro.XF6]
  | .xf6 => [Micro.XF1, Micro.XF7]
  | .xf7 => [Micro.XF8]
  | .xf8 => [Micro.WR3, Micro.RD2, Micro.WR5, Micro.LP]

/-- The call of XFER an instruction makes: the micro-state after it and the number of bits (42_bit_byte_transfer R140). -/
def xferCall (i : Instr) : Option (MicroCode × BitVec 4) :=
  match i with
  | .wr2 => some (Micro.WR3, 8)
  | .wr4 => some (Micro.WR5, 1)
  | .rd1 => some (Micro.RD2, 8)
  | .rd5 => some (Micro.LP, 1)
  | _ => none

/-- The sites an instruction outside XFER can go to: a call of XFER counts as its continuation. -/
def nextSites (i : Instr) : List MicroCode :=
  match xferCall i with
  | some (k, _) => [k]
  | none => successors i

theorem exec_fsm_mem_successors {i : Instr} {s t : State} (hcall : i = .xf8 → callLegal s.xcont s.xn = true)
    (he : exec i s = .next t) : t.fsm ∈ successors i := by
  cases i with
  | idle | init | transfer | writeByte =>
    obtain ⟨u, k, rfl, hk, -⟩ := exec_decode_next (by decide) he
    exact hk
  | bd => rcases execBd_next he with ⟨-, b, -, rfl⟩ | ⟨-, rfl⟩ | ⟨-, rfl⟩ <;> simp [successors]
  | wr1 =>
    obtain ⟨b, -, ht⟩ := onAccess_next.1 he
    cases ht
    simp [successors]
  | wr5 =>
    obtain ⟨b, -, ht⟩ := onAccess_next.1 he
    cases ht
    cases s.xret.getLsbD 0 <;> simp [successors]
  | rd2 =>
    obtain ⟨-, -, ht⟩ := bufWrite_next.1 he
    cases ht
    simp [successors]
  | rd4 =>
    obtain ⟨v, nack, rfl⟩ := execRd4_next he
    simp [successors]
  | lp =>
    cases he
    by_cases hrem : lenDec s.params s.rem = 0 <;> simp [successors, hrem]
  | xf6 =>
    cases he
    cases testOif s <;> simp [successors]
  | xf8 =>
    cases he
    rcases callLegal_cases (hcall rfl) with ⟨hk, -⟩ | ⟨hk, -⟩ | ⟨hk, -⟩ | ⟨hk, -⟩ <;> simp [successors, hk]
  | st1 | sp3 | sp6 | xf3 => rcases waitSclHigh_next he with ⟨-, rfl⟩ | ⟨-, rfl⟩ <;> simp [successors]
  | _ =>
    cases he
    exact List.mem_singleton_self _

theorem exec_of_xferCall {i : Instr} {k : MicroCode} {n : BitVec 4} (s : State) (h : xferCall i = some (k, n)) :
    exec i s = finish s (callXfer n k s) Micro.XF0 := by
  cases i with
  | wr2 | wr4 | rd1 | rd5 =>
    cases h
    rfl
  | _ => cases h

/-! ### Sites -/

theorem site_of_inXfer {s : State} (h : inXfer s.fsm = true) : site s = s.xcont := by simp [site, h]

/-- Inside XFER the site is one of its continuations; outside it is STATE itself. -/
theorem site_cases {s : State} (hcall : inXfer s.fsm = true → callLegal s.xcont s.xn = true) :
    (inXfer s.fsm = false ∧ site s = s.fsm) ∨
    (inXfer s.fsm = true ∧ site s = s.xcont ∧ site s ∈ [Micro.WR3, Micro.RD2, Micro.WR5, Micro.LP]) := by
  cases hx : inXfer s.fsm with
  | false => exact .inl ⟨rfl, site_of_fsm rfl hx⟩
  | true =>
    refine .inr ⟨rfl, site_of_inXfer hx, ?_⟩
    rw [site_of_inXfer hx]
    rcases callLegal_cases (hcall hx) with ⟨hk, -⟩ | ⟨hk, -⟩ | ⟨hk, -⟩ | ⟨hk, -⟩ <;> rw [hk] <;> decide

end Sys2Proof.Safety

/-! ### The transfer registers along a step -/

namespace Sys2Proof.Safety

open Sys2Proof.Machine

/-- The invariant's items about the transfer registers, at a site `c`: XFER changes none of them, so a call of it counts as
its continuation. -/
structure TransferInv (c : MicroCode) (s : State) : Prop where
  buffer : transferring c = true → s.bufsel = false → 1 ≤ s.argLen ∧ s.argBuf + s.argLen ≤ s.params.memSize
  tmpEven : transferring c = true → s.bufsel = true → s.tmp0.getLsbD 0 = false
  count : setUp c = true → s.idx + s.rem = transferLength s ∧ (s.rem = 0 ↔ stopping c = true)
  first : setUp c = true → c.toNat < 0x0F → s.phase = Phase.ADDRESS ∧ s.idx = 0
  dispatch : c = Micro.BD → (s.phase = Phase.ADDRESS ∧ s.idx = 0) ∨ (s.phase = directionPhase (addressByte s) ∧ 1 ≤ s.idx)
  direction : classified c = true → s.phase = directionPhase (addressByte s)
  writes : writing c = true → s.idx = 0 ∨ s.phase = Phase.WRITE
  reads : reading c = true → s.phase = Phase.READ ∧ 1 ≤ s.idx

/-- Inside XFER a transfer is set up, as at every continuation of XFER. -/
theorem setUp_site {s : State} (hcall : inXfer s.fsm = true → callLegal s.xcont s.xn = true) :
    setUp s.fsm = setUp (site s) ∧ transferring s.fsm = transferring (site s) := by
  rcases site_cases hcall with ⟨-, hsite⟩ | ⟨hx, -, hmem⟩
  · simp [hsite]
  · have hcont : ∀ c ∈ [Micro.WR3, Micro.RD2, Micro.WR5, Micro.LP], setUp c = true ∧ transferring c = true := by decide
    have hset : setUp s.fsm = true := by
      simp only [inXfer, setUp, Bool.and_eq_true, decide_eq_true_eq] at hx ⊢
      omega
    simp [hset, transferring_of_setUp hset, hcont _ hmem]

theorem Inv.transferInv {s : State} (h : Inv s) : TransferInv (site s) s := by
  obtain ⟨hset, htr⟩ := setUp_site h.call
  have hfsm : (site s).toNat ≤ 0x0F → site s = s.fsm := by
    intro hle
    rcases site_cases h.call with ⟨-, hsite⟩ | ⟨-, -, hmem⟩
    · exact hsite
    · have hcont : ∀ c ∈ [Micro.WR3, Micro.RD2, Micro.WR5, Micro.LP], 0x0F < c.toNat := by decide
      exact absurd (hcont _ hmem) (by omega)
  exact {
    buffer := fun hc => h.buffer (htr ▸ hc)
    tmpEven := fun hc => h.tmpEven (htr ▸ hc)
    count := fun hc => h.count (hset ▸ hc)
    first := fun hc hlt => h.first (hset ▸ hc) (hfsm (by omega) ▸ hlt)
    dispatch := fun hc => h.dispatch ((hfsm (by rw [hc]; decide)).symm.trans hc)
    direction := h.direction
    writes := h.writes
    reads := h.reads }

/-- Going from site `c` to `k` needs no more of the transfer registers than `c` already had. -/
def keepsPlace (c k : MicroCode) : Bool :=
  (transferring k → transferring c) && (setUp k → setUp c ∧ stopping k = stopping c) &&
  (setUp k → k.toNat < 0x0F → c.toNat < 0x0F) && (k = Micro.BD → c = Micro.BD ∨ c.toNat < 0x0F) &&
  (classified k → classified c) && (writing k → writing c) && (reading k → reading c)

/-- The buffer of the transfer under way is the same. -/
structure SameBuffer (s t : State) : Prop where
  params : t.params = s.params
  argBuf : t.argBuf = s.argBuf
  argLen : t.argLen = s.argLen
  bufsel : t.bufsel = s.bufsel
  tmp0 : t.tmp0 = s.tmp0
  address : addressByte t = addressByte s

theorem SameBuffer.transferLength_eq {s t : State} (h : SameBuffer s t) : transferLength t = transferLength s := by
  simp [transferLength, h.bufsel, h.argLen]

/-- With the same buffer and counters the items hold at any place that needs no more of them. -/
theorem TransferInv.keep {c k : MicroCode} {s t : State} (h : TransferInv c s) (hb : SameBuffer s t)
    (hphase : t.phase = s.phase) (hrem : t.rem = s.rem) (hidx : t.idx = s.idx) (hk : keepsPlace c k = true) :
    TransferInv k t := by
  simp only [keepsPlace, Bool.and_eq_true, decide_eq_true_eq] at hk
  obtain ⟨⟨⟨⟨⟨⟨htr, hset⟩, hfirst⟩, hbd⟩, hcls⟩, hwr⟩, hrd⟩ := hk
  have hlen := hb.transferLength_eq
  refine ⟨fun hc => ?_, fun hc => ?_, fun hc => ?_, fun hc hlt => ?_, fun hc => ?_, fun hc => ?_, fun hc => ?_,
    fun hc => ?_⟩
  · rw [hb.bufsel, hb.argLen, hb.argBuf, hb.params]
    exact h.buffer (htr hc)
  · rw [hb.bufsel, hb.tmp0]
    exact h.tmpEven (htr hc)
  · rw [hlen, hrem, hidx, (hset hc).2]
    exact h.count (hset hc).1
  · rw [hphase, hidx]
    exact h.first (hset hc).1 (hfirst hc hlt)
  · rw [hphase, hidx, hb.address]
    rcases hbd hc with hc' | hlt
    · exact h.dispatch hc'
    · exact .inl (h.first (hset (hc ▸ rfl)).1 hlt)
  · rw [hphase, hb.address]
    exact h.direction (hcls hc)
  · rw [hphase, hidx]
    exact h.writes (hwr hc)
  · rw [hphase, hidx]
    exact h.reads (hrd hc)

theorem addressByte_congr {s t : State} (hbufsel : t.bufsel = s.bufsel) (htmp : t.tmp0 = s.tmp0)
    (hbuf : t.argBuf = s.argBuf) (hmem : s.bufsel = false → memGet t.mem s.argBuf = memGet s.mem s.argBuf) :
    addressByte t = addressByte s := by
  unfold addressByte bufferByte
  rw [hbufsel, hbuf, htmp]
  cases hb : s.bufsel with
  | true => simp
  | false => simpa using hmem hb

/-- An instruction that writes neither the buffer nor its registers. -/
theorem exec_sameBuffer {i : Instr} {s t : State} (he : exec i s = .next t)
    (hi : i ∉ [Instr.idle, .transfer, .wb0, .rd2]) : SameBuffer s t := by
  have hframe := exec_frame he
  have hbufsel := hframe.bufsel (notMem_of_subset (by decide) hi)
  have htmp := hframe.tmp0 fun hwb0 => hi (by simp [hwb0])
  exact {
    params := hframe.params
    argBuf := hframe.argBuf
    argLen := hframe.argLen
    bufsel := hbufsel
    tmp0 := htmp
    address := addressByte_congr hbufsel htmp hframe.argBuf fun _ => by
      rw [hframe.mem fun hrd2 => hi (by simp [hrd2])] }

/-- A step of an instruction that writes no transfer register. -/
theorem TransferInv.of_frame {i : Instr} {c k : MicroCode} {s t : State} (h : TransferInv c s) (he : exec i s = .next t)
    (hi : i ∉ [Instr.idle, .transfer, .wb0, .rd2, .tr0, .bd, .lp]) (hk : keepsPlace c k = true) : TransferInv k t := by
  have hframe := exec_frame he
  have hlen : i ∉ [Instr.tr0, .lp] := notMem_of_subset (by decide) hi
  exact h.keep (exec_sameBuffer he (notMem_of_subset (by decide) hi)) (hframe.phase (notMem_of_subset (by decide) hi))
    (hframe.rem hlen) (hframe.idx hlen) hk

/-- Outside XFER, an instruction that writes no transfer register goes to a site that needs no more of them. -/
theorem keepsPlace_nextSites {i : Instr} {c k : MicroCode} (hcode : encode i = .micro c)
    (hi : i ∉ [Instr.idle, .tr0, .wb0, .bd, .lp]) (hx : inXfer c = false) (hk : k ∈ nextSites i) :
    keepsPlace c k = true := by
  revert k
  cases i with
  | init | transfer | writeByte => cases hcode
  | idle | tr0 | wb0 | bd | lp => exact absurd hi (by decide)
  | xf0 | xf1 | xf2 | xf3 | xf4 | xf5 | xf6 | xf7 | xf8 =>
    cases hcode
    exact absurd hx (by decide)
  | _ =>
    cases hcode
    decide

theorem keepsPlace_self : ∀ c : MicroCode, keepsPlace c c = true := by decide

end Sys2Proof.Safety

/-! ### The instructions that write transfer registers -/

namespace Sys2Proof.Safety

open Sys2Proof.Machine

theorem TransferInv.length_pos {c : MicroCode} {s : State} (h : TransferInv c s) (hc : transferring c = true) :
    transferLength s ≠ 0 := by
  unfold transferLength
  cases hb : s.bufsel with
  | true => simp
  | false =>
    have hlen := (h.buffer hc hb).1
    simp
    omega

/-- TR0 loads the whole length, at index 0 (43_transfer_fsm R161). -/
theorem TransferInv.exec_tr0 {s t : State} (h : TransferInv Micro.TR0 s) (he : exec .tr0 s = .next t) :
    TransferInv t.fsm t := by
  cases he
  have hlen := h.length_pos rfl
  exact {
    buffer := fun _ => h.buffer rfl
    tmpEven := fun _ => h.tmpEven rfl
    count := fun _ => ⟨Nat.zero_add _, ⟨fun h0 => absurd h0 hlen, fun hstop => by cases hstop⟩⟩
    first := fun _ _ => ⟨rfl, rfl⟩
    dispatch := by simp
    direction := fun hc => by cases hc
    writes := fun hc => by cases hc
    reads := fun hc => by cases hc }

/-- WB0 builds a buffer with an even address byte (44_write_byte R221). -/
theorem transferInv_of_exec_wb0 {s t : State} (he : exec .wb0 s = .next t) : TransferInv t.fsm t := by
  cases he
  exact {
    buffer := fun _ hb => by cases hb
    tmpEven := fun _ _ => writeAddressByte_even s.argAddr
    count := fun hc => by cases hc
    first := fun hc => by cases hc
    dispatch := by simp
    direction := fun hc => by cases hc
    writes := fun hc => by cases hc
    reads := fun hc => by cases hc }

/-- A byte read from the buffer's front is its address byte (20_memory R51). -/
theorem bufRead_zero_ok {s : State} {b : Byte} (h : bufRead s 0 = .ok b) : b = addressByte s := by
  rcases bufRead_ok.1 h with ⟨hb, ⟨-, hv⟩ | ⟨h0, -⟩⟩ | ⟨hb, -, hv⟩
  · simp [addressByte, bufferByte, hb, hv]
  · cases h0
  · simp [addressByte, bufferByte, hb, hv]

/-- A step with the same buffer to a place in which the direction is known: what is left is the count and the index. -/
theorem TransferInv.advance {c k : MicroCode} {s t : State} (h : TransferInv c s) (hc : transferring c = true)
    (hb : SameBuffer s t) (hk : 0x0F ≤ k.toNat)
    (hcount : t.idx + t.rem = transferLength s ∧ (t.rem = 0 ↔ stopping k = true))
    (hdir : t.phase = directionPhase (addressByte s)) (hpos : k = Micro.BD → 1 ≤ t.idx)
    (hwr : writing k = true → t.idx = 0 ∨ t.phase = Phase.WRITE)
    (hrd : reading k = true → t.phase = Phase.READ ∧ 1 ≤ t.idx) : TransferInv k t := by
  rw [← hb.transferLength_eq] at hcount
  rw [← hb.address] at hdir
  exact {
    buffer := fun _ => by
      rw [hb.bufsel, hb.argLen, hb.argBuf, hb.params]
      exact h.buffer hc
    tmpEven := fun _ => by
      rw [hb.bufsel, hb.tmp0]
      exact h.tmpEven hc
    count := fun _ => hcount
    first := fun _ hlt => absurd hlt (by omega)
    dispatch := fun hbd => .inr ⟨hdir, hpos hbd⟩
    direction := fun _ => hdir
    writes := hwr
    reads := hrd }

/-- BD classifies byte 0 on its first visit, and then sends a write on and a read to the read phase (43_transfer_fsm R169). -/
theorem TransferInv.exec_bd {s t : State} (h : TransferInv Micro.BD s) (he : exec .bd s = .next t) :
    TransferInv t.fsm t := by
  have hb := exec_sameBuffer he (by decide)
  have hcount := h.count rfl
  have hlater : s.phase ≠ Phase.ADDRESS → s.phase = directionPhase (addressByte s) ∧ 1 ≤ s.idx := fun hne =>
    (h.dispatch rfl).resolve_left fun hfirst => hne hfirst.1
  rcases execBd_next he with ⟨haddr, b, hread, rfl⟩ | ⟨hphase, rfl⟩ | ⟨hphase, rfl⟩
  · have hidx : s.idx = 0 := by
      rcases h.dispatch rfl with hfirst | ⟨hdir, -⟩
      · exact hfirst.2
      · rcases directionPhase_cases (addressByte s) with ⟨-, hd⟩ | ⟨-, hd⟩ <;> simp [haddr, hd] at hdir
    exact h.advance rfl hb (by simp) hcount (by rw [← bufRead_zero_ok hread]; rfl) (by simp) (fun _ => .inl hidx)
      (fun hrd => by cases hrd)
  · obtain ⟨hdir, -⟩ := hlater (by simp [hphase])
    exact h.advance rfl hb (by simp) hcount hdir (by simp) (fun _ => .inr hphase) (fun hrd => by cases hrd)
  · obtain ⟨hdir, hpos⟩ := hlater (by simp [hphase])
    exact h.advance rfl hb (by simp) hcount hdir (by simp) (fun hwr => by cases hwr) (fun _ => ⟨hphase, hpos⟩)

/-- The length fits its registers (43_transfer_fsm R161). -/
theorem Inv.transferLength_lt {s : State} (h : Inv s) : transferLength s < 2 ^ s.params.lenBits := by
  obtain ⟨-, hlen, -, -⟩ := h.widths
  unfold transferLength
  split
  · have hbits : 2 ≤ s.params.lenBits := by
      have hwf := h.params
      simp only [Params.wf, Bool.and_eq_true, decide_eq_true_eq] at hwf
      exact hwf.1.2
    calc 2 < 2 ^ 2 := by decide
      _ ≤ 2 ^ s.params.lenBits := Nat.pow_le_pow_right (by decide) hbits
  · exact hlen

/-- LP counts the byte: the loop goes on exactly while bytes remain (43_transfer_fsm R186). -/
theorem Inv.exec_lp {s t : State} (h : Inv s) (hf : s.fsm = Micro.LP) (he : exec .lp s = .next t) :
    TransferInv t.fsm t := by
  have hsite : site s = Micro.LP := site_of_fsm hf rfl
  have hT := hsite ▸ h.transferInv
  have hb := exec_sameBuffer he (by decide)
  obtain ⟨hsum, hrem⟩ := hT.count rfl
  have hpos : s.rem ≠ 0 := fun h0 => absurd (hrem.1 h0) (by decide)
  obtain ⟨-, -, hremw, -⟩ := h.widths
  have hlen := h.transferLength_lt
  have hdec : lenDec s.params s.rem = s.rem - 1 := lenDec_of_pos (by omega) hremw
  have hinc : lenInc s.params s.idx = s.idx + 1 := lenInc_of_lt (by omega)
  simp only [exec, execLp, hdec, hinc, finish_next] at he
  have hdir := hT.direction rfl
  by_cases hlast : s.rem - 1 = 0
  · simp only [hlast] at he
    subst he
    exact hT.advance rfl hb (by simp) ⟨by simp; omega, fun _ => rfl, fun _ => rfl⟩ hdir (by simp)
      (fun hwr => by cases hwr) (fun hrd => by cases hrd)
  · rw [if_pos hlast] at he
    subst he
    exact hT.advance rfl hb (by simp) ⟨by simp; omega, fun h0 => absurd h0 hlast, fun hstop => by cases hstop⟩ hdir
      (by simp) (fun hwr => by cases hwr) (fun hrd => by cases hrd)

/-- RD2 writes a data byte, never the address byte (43_transfer_fsm R182). -/
theorem TransferInv.exec_rd2 {s t : State} (h : TransferInv Micro.RD2 s) (hwf : Memory.wf s.mem = true)
    (he : exec .rd2 s = .next t) : TransferInv t.fsm t := by
  have hframe := exec_frame he
  have hbufsel := hframe.bufsel (by decide)
  have hpos := (h.reads rfl).2
  have hmem : memGet t.mem s.argBuf = memGet s.mem s.argBuf := by
    obtain ⟨-, -, ht⟩ := bufWrite_next.1 he
    cases ht
    simp only [settle_mem, goto_mem]
    rw [memGet_memPut _ _ _ hwf, if_neg (by omega)]
  have hb : SameBuffer s t := {
    params := hframe.params
    argBuf := hframe.argBuf
    argLen := hframe.argLen
    bufsel := hbufsel
    tmp0 := hframe.tmp0 (by decide)
    address := addressByte_congr hbufsel (hframe.tmp0 (by decide)) hframe.argBuf fun _ => hmem }
  have hf : t.fsm = Micro.RD3 := List.mem_singleton.1 (exec_fsm_mem_successors (by simp) he)
  rw [hf]
  exact h.keep hb (hframe.phase (by decide)) (hframe.rem (by decide)) (hframe.idx (by decide)) (by decide)

/-! ### The site along a step -/

/-- XFER's micro-states are those of XF0 to XF8. -/
theorem inXfer_iff {i : Instr} {c : MicroCode} (hcode : encode i = .micro c) :
    inXfer c = true ↔ i ∈ [Instr.xf0, .xf1, .xf2, .xf3, .xf4, .xf5, .xf6, .xf7, .xf8] := by
  cases i with
  | init | transfer | writeByte => cases hcode
  | _ =>
    cases hcode
    decide

theorem Inv.exec_successor {i : Instr} {s t : State} (h : Inv s) (hi : encode i = .micro s.fsm) (he : exec i s = .next t) :
    t.fsm ∈ successors i :=
  exec_fsm_mem_successors (fun h8 => h.call ((inXfer_iff hi).2 (by simp [h8]))) he

/-- A micro-state other than IDLE decodes no command. -/
theorem not_decode_of_micro {i : Instr} {c : MicroCode} (hcode : encode i = .micro c) (hne : i ≠ .idle) :
    i ∉ [Instr.idle, .init, .transfer, .writeByte] := by
  cases i with
  | init | transfer | writeByte => cases hcode
  | idle => exact absurd rfl hne
  | _ => decide

/-- XFER is entered by a call only. -/
theorem exec_not_inXfer {i : Instr} {s t : State} (hi : encode i = .micro s.fsm) (hx : inXfer s.fsm = false)
    (hcall : xferCall i = none) (he : exec i s = .next t) : inXfer t.fsm = false := by
  have hnot : i ∉ [Instr.xf0, .xf1, .xf2, .xf3, .xf4, .xf5, .xf6, .xf7, .xf8] := fun hmem => by
    simp [(inXfer_iff hi).2 hmem] at hx
  have hk := exec_fsm_mem_successors (fun h8 => absurd (h8 ▸ hnot) (by decide)) he
  have hout : ∀ k ∈ successors i, inXfer k = false := by
    cases i with
    | wr2 | wr4 | rd1 | rd5 => cases hcall
    | xf0 | xf1 | xf2 | xf3 | xf4 | xf5 | xf6 | xf7 | xf8 => exact absurd hnot (by decide)
    | _ => decide
  exact hout _ hk

theorem exec_site_eq_fsm {i : Instr} {s t : State} (hi : encode i = .micro s.fsm) (hx : inXfer s.fsm = false)
    (hcall : xferCall i = none) (he : exec i s = .next t) : site t = t.fsm :=
  site_of_fsm rfl (exec_not_inXfer hi hx hcall he)

/-- Outside XFER a step leads to one of the instruction's next sites. -/
theorem exec_site_mem_nextSites {i : Instr} {s t : State} (hi : encode i = .micro s.fsm) (hx : inXfer s.fsm = false)
    (he : exec i s = .next t) : site t ∈ nextSites i := by
  unfold nextSites
  cases hcall : xferCall i with
  | some call =>
    rw [exec_of_xferCall s hcall, finish_next] at he
    subst he
    exact List.mem_singleton_self _
  | none =>
    rw [exec_site_eq_fsm hi hx hcall he]
    refine exec_fsm_mem_successors (fun h8 => ?_) he
    simp [(inXfer_iff hi).2 (by simp [h8])] at hx

/-- Inside XFER, and on its return, the site stays. -/
theorem Inv.exec_site_of_inXfer {i : Instr} {s t : State} (h : Inv s) (hi : encode i = .micro s.fsm)
    (hx : inXfer s.fsm = true) (he : exec i s = .next t) : site t = site s := by
  have hmem := (inXfer_iff hi).1 hx
  have hxcont : t.xcont = s.xcont := (exec_frame he).xcont (notMem_of_disjoint (by decide) hmem)
  rw [site_of_inXfer hx]
  by_cases h8 : i = .xf8
  · subst h8
    cases he
    have hk : inXfer s.xcont = false := by
      rcases callLegal_cases (h.call hx) with ⟨hk, -⟩ | ⟨hk, -⟩ | ⟨hk, -⟩ | ⟨hk, -⟩ <;> rw [hk] <;> rfl
    exact site_of_fsm rfl hk
  · have hk := exec_fsm_mem_successors (fun h => absurd h h8) he
    have hin : ∀ k ∈ successors i, inXfer k = true := by
      revert hmem
      cases i with
      | xf8 => exact absurd rfl h8
      | _ => decide
    rw [site_of_inXfer (hin _ hk), hxcont]

/-- A step keeps the invariant of the transfer registers. -/
theorem Inv.exec_transferInv {i : Instr} {s t : State} (h : Inv s) (hi : encode i = .micro s.fsm) (hne : i ≠ .idle)
    (he : exec i s = .next t) : TransferInv (site t) t := by
  have hT := h.transferInv
  cases hx : inXfer s.fsm with
  | true =>
    rw [h.exec_site_of_inXfer hi hx he]
    have hmem := (inXfer_iff hi).1 hx
    exact hT.of_frame he (notMem_of_disjoint (by decide) hmem) (keepsPlace_self _)
  | false =>
    rw [site_of_fsm rfl hx] at hT
    by_cases hw : i ∈ [Instr.tr0, .wb0, .bd, .lp, .rd2]
    · have hcall : ∀ j ∈ [Instr.tr0, .wb0, .bd, .lp, .rd2], xferCall j = none := by decide
      rw [exec_site_eq_fsm hi hx (hcall i hw) he]
      simp only [List.mem_cons, List.not_mem_nil, or_false] at hw
      rcases hw with rfl | rfl | rfl | rfl | rfl <;> injection hi with hf
      · exact (hf ▸ hT).exec_tr0 he
      · exact transferInv_of_exec_wb0 he
      · exact (hf ▸ hT).exec_bd he
      · exact h.exec_lp hf.symm he
      · exact (hf ▸ hT).exec_rd2 h.memory.1 he
    · have hk := exec_site_mem_nextSites hi hx he
      have hall : i ∉ [Instr.idle, .transfer] ++ [.tr0, .wb0, .bd, .lp, .rd2] := fun hmem =>
        (List.mem_append.1 hmem).elim (notMem_of_subset (by decide) (not_decode_of_micro hi hne)) hw
      exact hT.of_frame he (notMem_of_subset (by decide) hall)
        (keepsPlace_nextSites hi (notMem_of_subset (by decide) hall) hx hk)

end Sys2Proof.Safety

/-! ### The lines and the edge counter along a step -/

namespace Sys2Proof.Safety

open Sys2Proof.Machine

theorem latched_some {d p ddr port pull : Bool} : latched (some (d, p)) ddr port pull = true ↔ ddr = d ∧ port = p := by
  simp [latched]

theorem latched_none {ddr port pull : Bool} : latched none ddr port pull = true ↔ pull = false := by
  simp [latched]

theorem Inv.scl_latches {s : State} (h : Inv s) {c : MicroCode} {d p : Bool} (hf : s.fsm = c)
    (hl : sclLatches c = some (d, p)) : s.ddrScl = d ∧ s.portScl = p := by
  have hscl := h.scl
  rw [hf, hl] at hscl
  exact latched_some.1 hscl

theorem Inv.sda_latches {s : State} (h : Inv s) {c : MicroCode} {d p : Bool} (hf : s.fsm = c) (hx : inXfer c = false)
    (hl : sdaLatches c = some (d, p)) : s.ddrSda = d ∧ s.portSda = p := by
  have hsda := h.sda
  rw [site_of_fsm hf hx, hl] at hsda
  exact latched_some.1 hsda

/-- A micro-state that moves no clock latch goes to one with the same latches; NK2 and SP7 go to IDLE. -/
theorem sclLatches_successors {i : Instr} {c k : MicroCode} (hcode : encode i = .micro c)
    (hi : i ∉ [Instr.idle, .in0, .st0, .st4, .wr0, .nk0, .xf2, .xf5, .sp2, .nk2, .sp7]) (hk : k ∈ successors i) :
    sclLatches k = sclLatches c := by
  revert k
  cases i with
  | init | transfer | writeByte => cases hcode
  | idle | in0 | st0 | st4 | wr0 | nk0 | xf2 | xf5 | sp2 | nk2 | sp7 => exact absurd hi (by decide)
  | _ =>
    cases hcode
    decide

/-- A step leaves SCL's latches as its micro-state wants them (42_bit_byte_transfer R154). -/
theorem Inv.exec_scl {i : Instr} {s t : State} (h : Inv s) (hi : encode i = .micro s.fsm) (hne : i ≠ .idle)
    (he : exec i s = .next t) : latched (sclLatches t.fsm) t.ddrScl t.portScl (sclPull t) = true := by
  by_cases hw : i ∈ [Instr.idle, .in0, .st0, .st4, .wr0, .nk0, .xf2, .xf5, .sp2, .nk2, .sp7]
  · cases i with
    | idle => exact absurd rfl hne
    | in0 | st0 | st4 | wr0 =>
      cases he
      rfl
    | nk0 | xf2 | xf5 | sp2 =>
      injection hi with hf
      obtain ⟨hd, hp⟩ := h.scl_latches hf.symm rfl
      cases he
      exact latched_some.2 (by simp [releaseHigh_scl, setInput_scl, shift_strobe_eq, hd, hp])
    | nk2 | sp7 =>
      injection hi with hf
      obtain ⟨hd, hp⟩ := h.scl_latches hf.symm rfl
      cases he
      exact latched_none.2 (by simp [sclPull, hd, hp])
    | _ => exact absurd hw (by decide)
  · have hframe := exec_frame he
    have hport := hframe.portScl (notMem_of_subset (by decide) hw)
    have hddr := hframe.ddrScl (notMem_of_subset (by decide) hw)
    have hk := h.exec_successor hi he
    rw [sclLatches_successors hi hw hk, sclPull, hport, hddr]
    exact h.scl

/-- Outside XFER, a micro-state that moves no data latch goes to a site with the same latches; NK2 and SP7 go to IDLE. -/
theorem sdaLatches_nextSites {i : Instr} {c k : MicroCode} (hcode : encode i = .micro c) (hx : inXfer c = false)
    (hi : i ∉ [Instr.idle, .in0, .st3, .st6, .wr3, .wr6, .nk1, .rd0, .rd3, .sp0, .sp5, .nk2, .sp7])
    (hk : k ∈ nextSites i) : sdaLatches k = sdaLatches c := by
  revert k
  cases i with
  | init | transfer | writeByte => cases hcode
  | idle | in0 | st3 | st6 | wr3 | wr6 | nk1 | rd0 | rd3 | sp0 | sp5 | nk2 | sp7 => exact absurd hi (by decide)
  | xf0 | xf1 | xf2 | xf3 | xf4 | xf5 | xf6 | xf7 | xf8 =>
    cases hcode
    exact absurd hx (by decide)
  | _ =>
    cases hcode
    decide

/-- DR is written only at sites that know both latches of SDA, or by IN0. -/
theorem Inv.sdaLatches_of_writes_dr {i : Instr} {s : State} (h : Inv s) (hi : encode i = .micro s.fsm)
    (hw : i ∈ [Instr.wr1, .rd4, .xf5]) : sdaLatches (site s) ≠ none := by
  simp only [List.mem_cons, List.not_mem_nil, or_false] at hw
  rcases site_cases h.call with ⟨hx, hsite⟩ | ⟨-, -, hmem⟩
  · rw [hsite]
    rcases hw with rfl | rfl | rfl <;> injection hi with hf <;> rw [← hf] at hx ⊢
    · decide
    · decide
    · cases hx
  · have hcont : ∀ c ∈ [Micro.WR3, Micro.RD2, Micro.WR5, Micro.LP], sdaLatches c ≠ none := by decide
    exact hcont _ hmem

/-- A step that moves no data latch, to a site with the same latches. -/
theorem Inv.sda_of_same {i : Instr} {s t : State} (h : Inv s) (hi : encode i = .micro s.fsm) (he : exec i s = .next t)
    (hw : i ∉ [Instr.in0, .st3, .st6, .wr3, .wr6, .nk1, .rd0, .rd3, .sp0, .sp5])
    (hl : sdaLatches (site t) = sdaLatches (site s)) :
    latched (sdaLatches (site t)) t.ddrSda t.portSda (sdaPull t) = true := by
  have hframe := exec_frame he
  have hport := hframe.portSda (notMem_of_subset (by decide) hw)
  have hddr := hframe.ddrSda (notMem_of_subset (by decide) hw)
  have hsda := h.sda
  rw [hl, hport, hddr]
  cases hwant : sdaLatches (site s) with
  | some want =>
    rw [hwant] at hsda
    exact latched_some.2 (latched_some.1 hsda)
  | none =>
    have hnot : i ∉ [Instr.wr1, .rd4, .xf5] := fun hdr => h.sdaLatches_of_writes_dr hi hdr hwant
    have hdr : t.dr = s.dr := hframe.dr fun hmem =>
      (List.mem_cons.1 hmem).elim (fun h0 => hw (by simp [h0])) hnot
    rw [hwant] at hsda
    rw [sdaPull, hport, hddr, hdr]
    exact hsda

/-- A step leaves SDA's latches as its site wants them (42_bit_byte_transfer R154). -/
theorem Inv.exec_sda {i : Instr} {s t : State} (h : Inv s) (hi : encode i = .micro s.fsm) (hne : i ≠ .idle)
    (he : exec i s = .next t) : latched (sdaLatches (site t)) t.ddrSda t.portSda (sdaPull t) = true := by
  cases hx : inXfer s.fsm with
  | true =>
    have hmem := (inXfer_iff hi).1 hx
    exact h.sda_of_same hi he (notMem_of_disjoint (by decide) hmem) (by rw [h.exec_site_of_inXfer hi hx he])
  | false =>
    by_cases hw : i ∈ [Instr.idle, .in0, .st3, .st6, .wr3, .wr6, .nk1, .rd0, .rd3, .sp0, .sp5, .nk2, .sp7]
    · cases i with
      | idle => exact absurd rfl hne
      | in0 =>
        cases he
        exact latched_none.2 (by simp [sdaPull, driveHigh_sda, driveHigh_scl, writeCr, CR_TWI, writeSr, loadDr])
      | st3 | sp0 =>
        cases he
        rfl
      | st6 | wr3 | wr6 | nk1 | rd0 | rd3 | sp5 =>
        injection hi with hf
        obtain ⟨hd, hp⟩ := h.sda_latches hf.symm rfl rfl
        cases he
        exact latched_some.2 (by simp [releaseHigh_sda, setInput_sda, setOutput_sda, hd, hp])
      | nk2 | sp7 =>
        injection hi with hf
        obtain ⟨hd, -⟩ := h.sda_latches hf.symm rfl rfl
        cases he
        exact latched_none.2 (by simp [sdaPull, hd])
      | _ => exact absurd hw (by decide)
    · refine h.sda_of_same hi he (notMem_of_subset (by decide) hw) ?_
      rw [sdaLatches_nextSites hi hx hw (exec_site_mem_nextSites hi hx he), site_of_fsm rfl hx]

end Sys2Proof.Safety

/-! ### The call of XFER and its edge counter along a step -/

namespace Sys2Proof.Safety

open Sys2Proof.Machine

/-- A call of XFER is made at one of the four call sites (42_bit_byte_transfer R140). -/
theorem callLegal_of_xferCall {i : Instr} {k : MicroCode} {n : BitVec 4} (h : xferCall i = some (k, n)) :
    callLegal k n = true := by
  cases i with
  | wr2 | wr4 | rd1 | rd5 =>
    cases h
    decide
  | _ => cases h

theorem Inv.exec_call {i : Instr} {s t : State} (h : Inv s) (hi : encode i = .micro s.fsm) (he : exec i s = .next t)
    (hx : inXfer t.fsm = true) : callLegal t.xcont t.xn = true := by
  cases hcall : xferCall i with
  | some call =>
    rw [exec_of_xferCall s hcall, finish_next] at he
    subst he
    exact callLegal_of_xferCall hcall
  | none =>
    have hframe := exec_frame he
    have hnot : i ∉ [Instr.wr2, .wr4, .rd1, .rd5] := by
      revert hcall
      cases i <;> decide
    rw [hframe.xcont hnot, hframe.xn hnot]
    cases hs : inXfer s.fsm with
    | true => exact h.call hs
    | false => simp [exec_not_inXfer hi hs hcall he] at hx

/-- The rising edge makes the count odd (42_bit_byte_transfer R152). -/
theorem counting_rising_edge {xn cnt : BitVec 4} {oif : Bool} (h : counting Micro.XF2 xn cnt oif = true) :
    counting Micro.XF3 xn (cnt + 1) (oif || cnt == 15) = true := by
  have hedge : ∀ (byte : Bool) (cnt : BitVec 4) (oif : Bool), (!oif && !cnt.getLsbD 0 && (byte || cnt == 14)) = true →
      (!(oif || cnt == 15) && (cnt + 1).getLsbD 0 && (byte || cnt + 1 == 15)) = true := by decide
  exact hedge (xn == 8) cnt oif h

/-- The falling edge makes the count even, and wraps it after the last bit (42_bit_byte_transfer R152). -/
theorem counting_falling_edge {xn cnt : BitVec 4} {oif : Bool} (h : counting Micro.XF5 xn cnt oif = true) :
    counting Micro.XF6 xn (cnt + 1) (oif || cnt == 15) = true := by
  have hedge : ∀ (byte : Bool) (cnt : BitVec 4) (oif : Bool), (!oif && cnt.getLsbD 0 && (byte || cnt == 15)) = true →
      (if (oif || cnt == 15) = true then cnt + 1 == 0 else !(cnt + 1).getLsbD 0 && byte) = true := by decide
  exact hedge (xn == 8) cnt oif h

/-- The done flag tells whether bits remain (42_bit_byte_transfer R147). -/
theorem counting_test {xn cnt : BitVec 4} {oif : Bool} (h : counting Micro.XF6 xn cnt oif = true) :
    counting (if oif then Micro.XF7 else Micro.XF1) xn cnt oif = true := by
  cases oif with
  | true => exact h
  | false =>
    have hmore : (!cnt.getLsbD 0 && xn == 8) = true := h
    simp only [Bool.and_eq_true] at hmore
    have hgoal : (!cnt.getLsbD 0 && (xn == 8 || cnt == 14)) = true := by simp only [hmore, Bool.true_or, Bool.and_self]
    exact hgoal

/-- ARM presets the counter for the number of bits called (40_line_primitives R112). -/
theorem counting_arm {k : MicroCode} {s : State} (h : callLegal k s.xn = true) :
    counting Micro.XF1 s.xn (arm s.xn s).cnt (arm s.xn s).oif = true := by
  rcases callLegal_cases h with ⟨-, hn⟩ | ⟨-, hn⟩ | ⟨-, hn⟩ | ⟨-, hn⟩ <;>
    simp [hn, arm, writeSr, SR_8BIT, SR_1BIT, counting]

/-- A step keeps the edge counter in time with XFER (42_bit_byte_transfer R152). -/
theorem Inv.exec_counter {i : Instr} {s t : State} (h : Inv s) (hi : encode i = .micro s.fsm) (he : exec i s = .next t) :
    counting t.fsm t.xn t.cnt t.oif = true := by
  have hcount : ∀ c, encode i = .micro c → counting c s.xn s.cnt s.oif = true := by
    intro c hc
    rw [hi] at hc
    injection hc with hc
    exact hc ▸ h.counter
  cases i with
  | init | transfer | writeByte => cases hi
  | xf0 =>
    cases he
    exact counting_arm (h.call ((inXfer_iff hi).2 (by decide)))
  | xf1 | xf4 | xf7 =>
    have hsame := hcount _ rfl
    cases he
    exact hsame
  | xf2 =>
    simp only [exec, execXf2, strobe_eq] at he
    cases he
    exact counting_rising_edge (hcount _ rfl)
  | xf3 =>
    have hframe := exec_frame he
    have hsame := hcount _ rfl
    rw [hframe.xn (by decide), hframe.cnt (by decide), hframe.oif (by decide)]
    rcases List.mem_pair.1 (h.exec_successor hi he) with hk | hk <;> rw [hk] <;> exact hsame
  | xf5 =>
    simp only [exec, execXf5, shift_strobe_eq] at he
    cases he
    exact counting_falling_edge (hcount _ rfl)
  | xf6 =>
    cases he
    exact counting_test (hcount _ rfl)
  | _ =>
    have hk := h.exec_successor hi he
    refine counting_of_not_counting _ _ _ ?_
    generalize t.fsm = k at hk ⊢
    revert k
    decide

end Sys2Proof.Safety

/-! ### Every step keeps the invariant -/

namespace Sys2Proof.Safety

open Sys2Proof.Machine

/-- Only IN0, NK2 and SP7 go to IDLE, no micro-state goes to IN0, and no successor is a reserved code. -/
theorem successors_codes {i : Instr} {c k : MicroCode} (hcode : encode i = .micro c) (hne : i ≠ .idle)
    (hk : k ∈ successors i) :
    k ≠ Micro.IN0 ∧ (k = Micro.IDLE ↔ i ∈ [Instr.in0, .nk2, .sp7]) ∧ (decodeMicro k).isOk = true := by
  revert k
  cases i with
  | init | transfer | writeByte => cases hcode
  | idle => exact absurd rfl hne
  | _ => decide

/-- BUSY ends with the micro-states that go back to IDLE (10_state R49 item 1). -/
theorem Inv.exec_busy {i : Instr} {s t : State} (h : Inv s) (hf : s.fsm ≠ Micro.IDLE) (hi : encode i = .micro s.fsm)
    (hne : i ≠ .idle) (he : exec i s = .next t) : t.busy = !decide (t.fsm = Micro.IDLE) := by
  by_cases hw : i ∈ [Instr.in0, .nk2, .sp7]
  · cases i with
    | in0 | nk2 | sp7 =>
      cases he
      rfl
    | _ => exact absurd hw (by decide)
  · have hk := h.exec_successor hi he
    obtain ⟨-, hidle, -⟩ := successors_codes hi hne hk
    have hbusy := (exec_frame he).busy fun hmem =>
      (List.mem_append (s := [.idle, .init, .transfer, .writeByte]).1 hmem).elim (not_decode_of_micro hi hne) hw
    rw [hbusy, h.busy]
    simp [hf, mt hidle.1 hw]

/-- CR holds its value after every strobe (10_state R49 item 2). -/
theorem Inv.exec_control {i : Instr} {s t : State} (h : Inv s) (he : exec i s = .next t) (hdone : t.initDone = true) :
    t.cr = 0x2A := by
  by_cases hw : i ∈ [Instr.in0, .xf2, .xf5]
  · cases i with
    | in0 | xf2 | xf5 =>
      cases he
      rfl
    | _ => exact absurd hw (by decide)
  · have hframe := exec_frame he
    rw [hframe.cr hw]
    refine h.control ?_
    rw [← hframe.initDone fun h0 => hw (by simp [h0])]
    exact hdone

/-- Only IN0 changes INIT_DONE, and it goes to IDLE (41_initializer R132). -/
theorem Inv.exec_initialised {i : Instr} {s t : State} (h : Inv s) (hf : s.fsm ≠ Micro.IDLE)
    (hd : decodeMicro s.fsm = .ok i) (hne : i ≠ .idle) (he : exec i s = .next t) (ht : t.fsm ≠ Micro.IDLE) :
    t.initDone = !decide (t.fsm = Micro.IN0) := by
  have hi := encode_of_decodeMicro hd
  have hk := h.exec_successor hi he
  obtain ⟨hin0, hidle, -⟩ := successors_codes hi hne hk
  have hi0 : i ≠ .in0 := fun h0 => ht (hidle.2 (by simp [h0]))
  have hs0 : s.fsm ≠ Micro.IN0 := fun h0 => by
    rw [h0] at hd
    cases hd
    exact hi0 rfl
  rw [(exec_frame he).initDone hi0, h.initialised hf]
  simp [hin0, hs0]

/-- Only RD2 writes host memory, and at an address that exists (20_memory R53). -/
theorem Inv.exec_memory {i : Instr} {s t : State} (h : Inv s) (he : exec i s = .next t) :
    Memory.wf t.mem = true ∧ ∀ c ∈ t.mem, c.1 < t.params.memSize := by
  rw [(exec_frame he).params]
  by_cases hrd2 : i = .rd2
  · subst hrd2
    obtain ⟨-, haddr, ht⟩ := bufWrite_next.1 he
    cases ht
    exact h.memPut_canonical haddr
  · rw [(exec_frame he).mem hrd2]
    exact h.memory

/-- TR0 and LP write the counters within their widths (43_transfer_fsm R161, R186). -/
theorem Inv.exec_widths {i : Instr} {s t : State} (h : Inv s) (he : exec i s = .next t) :
    t.argBuf < 2 ^ t.params.addrBits ∧ t.argLen < 2 ^ t.params.lenBits ∧ t.rem < 2 ^ t.params.lenBits ∧
      t.idx < 2 ^ t.params.lenBits := by
  have hframe := exec_frame he
  obtain ⟨hbuf, hlen, hrem, hidx⟩ := h.widths
  rw [hframe.params, hframe.argBuf, hframe.argLen]
  refine ⟨hbuf, hlen, ?_⟩
  have hpos : 0 < 2 ^ s.params.lenBits := Nat.two_pow_pos _
  by_cases hw : i ∈ [Instr.tr0, .lp]
  · cases i with
    | tr0 =>
      cases he
      exact ⟨h.transferLength_lt, hpos⟩
    | lp =>
      cases he
      exact ⟨Nat.mod_lt _ hpos, Nat.mod_lt _ hpos⟩
    | _ => exact absurd hw (by decide)
  · rw [hframe.rem hw, hframe.idx hw]
    exact ⟨hrem, hidx⟩

/-- A micro-state's step keeps the invariant. -/
theorem Inv.of_exec_micro {i : Instr} {s t : State} (h : Inv s) (hf : s.fsm ≠ Micro.IDLE) (hd : decodeMicro s.fsm = .ok i)
    (he : exec i s = .next t) : Inv t := by
  have hi := encode_of_decodeMicro hd
  have hne : i ≠ .idle := by
    rintro rfl
    injection hi with hcode
    exact hf hcode.symm
  have hk := h.exec_successor hi he
  obtain ⟨-, -, hcode⟩ := successors_codes hi hne hk
  have hcmd : t.cmd = s.cmd := (exec_frame he).cmd (not_decode_of_micro hi hne)
  have hcall : inXfer t.fsm = true → callLegal t.xcont t.xn = true := h.exec_call hi he
  have hT := h.exec_transferInv hi hne he
  obtain ⟨hset, htr⟩ := setUp_site hcall
  have hsite : inXfer t.fsm = false → site t = t.fsm := site_of_fsm rfl
  exact {
    params := (exec_frame he).params ▸ h.params
    memory := h.exec_memory he
    code := exists_decodeMicro_of_isOk hcode
    busy := h.exec_busy hf hi hne he
    pending := fun hc => absurd (h.pending (hcmd ▸ hc)) hf
    control := h.exec_control he
    initialised := h.exec_initialised hf hd hne he
    call := hcall
    counter := h.exec_counter hi he
    scl := h.exec_scl hi hne he
    sda := h.exec_sda hi hne he
    widths := h.exec_widths he
    buffer := fun hc => hT.buffer (htr ▸ hc)
    tmpEven := fun hc => hT.tmpEven (htr ▸ hc)
    count := fun hc => hT.count (hset ▸ hc)
    first := fun hc hlt => hT.first (hset ▸ hc) (by
      rw [hsite (by simp only [inXfer, Bool.and_eq_false_iff, decide_eq_false_iff_not]; omega)]
      exact hlt)
    dispatch := fun hbd => hT.dispatch ((hsite (by rw [hbd]; rfl)).trans hbd)
    direction := hT.direction
    writes := hT.writes
    reads := hT.reads }

/-- The master's step keeps the invariant. -/
theorem Inv.of_masterStep {s t : State} (h : Inv s) (hm : masterStep s = .next t) : Inv t := by
  obtain ⟨i, hfetch, he⟩ := Machine.masterStep_next hm
  rcases fetch_ok hfetch with ⟨hf, hc, rfl⟩ | ⟨hf, c, -, hd⟩ | ⟨hf, hd⟩
  · exact h.of_exec_idle hf hc he
  · exact h.of_exec_command hf (decodeCmd_cases hd) he
  · exact h.of_exec_micro hf hd he

theorem transferring_of_classified {c : MicroCode} (h : classified c = true) : transferring c = true := by
  simp only [classified, Bool.and_eq_true, decide_eq_true_eq] at h
  exact transferring_of_setUp (decide_eq_true (by omega))

/-- The host writes no byte of a buffer in use, so it leaves a transfer's address byte alone (20_memory R64). -/
theorem Inv.addressByte_writeMem {s : State} {a : Nat} (v : Byte) (h : Inv s) (hown : ownedByBlock s a = false)
    (htr : transferring s.fsm = true) : addressByte { s with mem := memPut s.mem a v } = addressByte s := by
  refine addressByte_congr rfl rfl rfl fun hb => ?_
  obtain ⟨hlen, -⟩ := h.buffer htr hb
  have hbusy : s.busy = true := by
    rw [h.busy]
    by_contra hidle
    simp only [Bool.not_eq_true', Bool.not_eq_false, decide_eq_true_eq] at hidle
    rw [hidle] at htr
    cases htr
  have hne : s.argBuf ≠ a := by
    rintro rfl
    simp only [ownedByBlock, hbusy, Bool.true_or, Bool.true_and, Bool.and_eq_false_iff, decide_eq_false_iff_not] at hown
    omega
  rw [memGet_memPut _ _ _ h.memory.1, if_neg hne]

theorem Inv.of_writeMem {s : State} {a : Nat} (v : Byte) (h : Inv s) (ha : a < s.params.memSize)
    (hown : ownedByBlock s a = false) : Inv { s with mem := memPut s.mem a v } := by
  have haddr := h.addressByte_writeMem v hown
  exact { h with
    memory := h.memPut_canonical ha
    dispatch := fun hbd => by
      rw [haddr (hbd ▸ rfl)]
      exact h.dispatch hbd
    direction := fun hcls => by
      have htr : transferring (site s) = true := transferring_of_classified hcls
      rw [haddr ((setUp_site h.call).2.trans htr)]
      exact h.direction hcls }

/-- An event that may happen keeps the invariant. -/
theorem Inv.of_perform {s t : State} {e : Event} (h : Inv s) (hen : enabled s e = true) (hp : perform s e = .next t) :
    Inv t := by
  rcases perform_next hp with ⟨o, v, -, hw⟩ | ⟨r, rfl⟩ | ⟨a, v, rfl, ha, rfl⟩ | ⟨-, rfl⟩
  · exact h.of_hostWrite hw
  · exact h.of_same_registers rfl
  · exact h.of_writeMem v ha (by simpa [enabled] using hen)
  · exact h.of_resetEvent

/-- Settles O46: an event keeps the invariant as the block owns its buffer; a master step keeps it by the four groups of
items: the transfer registers at their site, the latches, the edge counter of XFER, and the control registers. -/
theorem stepKeepsInvariant : Obligations.StepKeepsInvariant := by
  intro s t h hstep
  rcases step_cases s with ⟨e, u, hdue, heq⟩ | ⟨-, heq⟩
  · obtain ⟨hen, rest, -, rfl⟩ := dueEvent_some hdue
    have hu : Inv { s with arrivals := rest } := h.of_same_registers rfl
    exact hu.of_perform hen (heq ▸ hstep)
  · have hu : Inv (tick s) := tick_eq s ▸ h.of_same_registers rfl
    exact hu.of_masterStep (heq ▸ hstep)

end Sys2Proof.Safety

/-! ### Host memory: its canonical form, the host's accesses, and placing a table word -/

namespace Sys2Proof.Machine

/-- What the canonical form says of the first entry and of the rest. -/
theorem memAbove_cons {low : Option Nat} {k : Nat} {v : Byte} {rest : Memory} :
    memAbove low ((k, v) :: rest) = true ↔
      (∀ l, low = some l → l < k) ∧ v ≠ unlistedByte ∧ memAbove (some k) rest = true := by
  cases low <;> simp [memAbove, and_assoc]

@[simp] theorem memGet_head (k : Nat) (v : Byte) (rest : Memory) : memGet ((k, v) :: rest) k = v := if_pos rfl

theorem memGet_tail {k a : Nat} (v : Byte) (rest : Memory) (h : k ≠ a) : memGet ((k, v) :: rest) a = memGet rest a :=
  if_neg h

/-- In canonical form the first entry has the least address with a byte to read. -/
theorem head_le_of_memGet_ne {low : Option Nat} {k a : Nat} {v : Byte} {rest : Memory}
    (h : memAbove low ((k, v) :: rest) = true) (ha : memGet ((k, v) :: rest) a ≠ unlistedByte) : k ≤ a := by
  obtain ⟨-, -, hrest⟩ := memAbove_cons.1 h
  by_contra hlt
  rw [memGet_tail v rest (by omega)] at ha
  exact ha (memGet_of_memAbove hrest (by omega))

/-- Canonical memories that read alike are the same list, whatever their bounds: their first entries hold the least address
with a byte to read, and below it both rests read as unlisted. -/
theorem eq_of_memGet_eq {low low' : Option Nat} {m n : Memory} (hm : memAbove low m = true) (hn : memAbove low' n = true)
    (h : ∀ a, memGet m a = memGet n a) : m = n := by
  induction m generalizing low low' n with
  | nil =>
    cases n with
    | nil => rfl
    | cons d rest' =>
      obtain ⟨k', v'⟩ := d
      obtain ⟨-, hv', -⟩ := memAbove_cons.1 hn
      exact absurd ((memGet_head k' v' rest').symm.trans (h k').symm) hv'
  | cons c rest ih =>
    obtain ⟨k, v⟩ := c
    obtain ⟨-, hv, hrest⟩ := memAbove_cons.1 hm
    cases n with
    | nil => exact absurd ((memGet_head k v rest).symm.trans (h k)) hv
    | cons d rest' =>
      obtain ⟨k', v'⟩ := d
      obtain ⟨-, hv', hrest'⟩ := memAbove_cons.1 hn
      have hle : k ≤ k' := head_le_of_memGet_ne hm (by rwa [h, memGet_head])
      have hge : k' ≤ k := head_le_of_memGet_ne hn (by rwa [← h, memGet_head])
      obtain rfl : k = k' := Nat.le_antisymm hle hge
      obtain rfl : v = v' := by simpa using h k
      have htail : ∀ a, memGet rest a = memGet rest' a := by
        intro a
        by_cases ha : a ≤ k
        · rw [memGet_of_memAbove hrest ha, memGet_of_memAbove hrest' ha]
        · have hne : k ≠ a := by omega
          simpa only [memGet_tail _ _ hne] using h a
      rw [ih hrest hrest' htail]

/-- Settles O44: the canonical form leaves one list for each map from addresses to bytes. -/
theorem memoryIsCanonical : Obligations.MemoryIsCanonical :=
  fun _ _ hm hn h => eq_of_memGet_eq hm hn h

/-! ### A code placed for the next step -/

@[simp] theorem placeCode_arrivals (w : Code) (s : State) : (placeCode w s).arrivals = [] := by
  cases w with
  | cmd b => rfl
  | micro c => unfold placeCode; dsimp only; split_ifs <;> rfl

/-- A placed code is what the master performs next (41_initializer R130, 10_state R20). -/
theorem fetch_placeCode {w : Code} {i : Instr} (s : State) (h : decode w = .ok i) : fetch (placeCode w s) = .ok i := by
  cases w with
  | cmd b => exact fetch_of_command rfl rfl h
  | micro c =>
    by_cases hc : c = Micro.IDLE
    · subst hc
      obtain rfl : Instr.idle = i := Except.ok.inj h
      exact fetch_of_idle rfl rfl
    · rw [placeCode, if_neg hc]
      exact fetch_of_micro hc h

theorem decode_of_decodeTableWord {nbits w : Nat} {i : Instr} (h : decodeTableWord nbits w = some i) :
    decode (codeOfTableWord nbits w) = .ok i := by
  unfold decodeTableWord at h
  split at h
  · cases hd : decode (codeOfTableWord nbits w) with
    | ok j => rw [hd] at h; exact congrArg Except.ok (Option.some.inj h)
    | error e => rw [hd] at h; cases h
  · cases h

/-- Settles O5: a placed word leaves no event due, and `fetch` answers the instruction it decodes to. -/
theorem fetchWordRunsNext : Obligations.FetchWordRunsNext := by
  intro s nbits w i h
  have hfetch : fetch (s.withFetchWord nbits w) = .ok i := fetch_placeCode s (decode_of_decodeTableWord h)
  have hnone : (s.withFetchWord nbits w).arrivals = [] := placeCode_arrivals _ s
  rw [step_of_no_event hnone, masterStep_of_fetch_ok hfetch]

/-! ### The host's own accesses -/

/-- The block owns the bytes of the buffer while a command runs or a TRANSFER is pending (20_memory R64). -/
theorem ownedByBlock_iff {s : State} {a : Nat} :
    ownedByBlock s a = true ↔
      (s.busy = true ∨ s.cmd = some Cmd.TRANSFER) ∧ s.argBuf ≤ a ∧ a < s.argBuf + s.argLen := by
  simp [ownedByBlock]

theorem enabled_writeMem (s : State) (a : Nat) (v : Byte) : enabled s (.writeMem a v) = !ownedByBlock s a := rfl
theorem enabled_readMem (s : State) (a : Nat) : enabled s (.readMem a) = !ownedByBlock s a := rfl

/-- Settles O7: the host's accesses are enabled exactly at the bytes the block does not own. -/
theorem ownedBufferIsHeldBack : Obligations.OwnedBufferIsHeldBack := by
  refine ⟨fun s a v hheld hlow hhigh => ?_, fun s a v hout => ?_, fun _ => rfl⟩
  · have hown : ownedByBlock s a = true := ownedByBlock_iff.2 ⟨hheld, hlow, hhigh⟩
    simp [enabled_writeMem, enabled_readMem, hown]
  · have hfree : ownedByBlock s a = false := by
      rw [← Bool.not_eq_true, ownedByBlock_iff]
      omega
    simp [enabled_writeMem, enabled_readMem, hfree]

/-- An address at or above MEM_SIZE does not exist (log 7). -/
theorem memRead_of_not_lt {s : State} {a : Nat} (h : ¬ a < s.params.memSize) : memRead s a = .error (.noSuchAddress a) :=
  if_neg h

theorem memWrite_of_not_lt {s : State} {a : Nat} (v : Byte) (h : ¬ a < s.params.memSize) :
    memWrite s a v = .error (.noSuchAddress a) :=
  if_neg h

/-- What an access of the host answers is what the memory operation gives it. -/
theorem perform_writeMem (s : State) (a : Nat) (v : Byte) :
    perform s (.writeMem a v) = onAccess (memWrite s a v) .next := rfl

theorem perform_readMem (s : State) (a : Nat) :
    perform s (.readMem a) = onAccess (memRead s a) fun v => .next (noteRead (.memory a v) s) := rfl

/-- Settles O40: below MEM_SIZE a write is `memPut` and a read `memGet`; above it both accesses fail. -/
theorem hostAccessesMemory : Obligations.HostAccessesMemory := by
  refine ⟨fun s a v ha hwf => ?_, fun s a ha => ?_, fun s a v ha => ?_⟩
  · refine ⟨{ s with mem := memPut s.mem a v }, ?_, rfl, memPut_wf a v hwf, fun b => memGet_memPut a b v hwf⟩
    rw [perform_writeMem, memWrite_ok.2 ⟨ha, rfl⟩, onAccess_ok]
  · rw [perform_readMem, memRead_ok.2 ⟨ha, rfl⟩, onAccess_ok]
    rfl
  · have hnot : ¬ a < s.params.memSize := by omega
    rw [perform_writeMem, memWrite_of_not_lt v hnot, perform_readMem, memRead_of_not_lt hnot]
    exact ⟨rfl, rfl⟩

end Sys2Proof.Machine

/-! ### The code tables: decode inverts encode, and reserved codes are refused -/

namespace Sys2Proof.Machine

/-- Each row of the command table holds its instruction's own code (30_encoding R71). -/
theorem encode_of_decodeCmd {b : Byte} {i : Instr} (h : decodeCmd b = .ok i) : encode i = .cmd b := by
  have hrows : ∀ row ∈ cmdRows, encode row.2 = .cmd row.1 := by decide
  exact hrows (b, i) (mem_cmdRows_of_decodeCmd h)

theorem encode_of_decode {w : Code} {i : Instr} (h : decode w = .ok i) : encode i = w := by
  cases w with
  | cmd b => exact encode_of_decodeCmd h
  | micro c => exact encode_of_decodeMicro h

/-- The tables have a row for every instruction: its code is found there, under its own format. -/
theorem decode_encode (i : Instr) : decode (encode i) = .ok i := by
  cases i <;> rfl

/-- Settles O1: each word is the code `encode` gives its instruction. -/
theorem decoderReadsSpecWords : Obligations.DecoderReadsSpecWords :=
  ⟨decode_encode .init, decode_encode .transfer, decode_encode .writeByte, decode_encode .idle, decode_encode .in0,
    decode_encode .tr0, decode_encode .wb0, decode_encode .st3, decode_encode .bd, decode_encode .wr5,
    decode_encode .nk2, decode_encode .rd2, decode_encode .lp, decode_encode .sp5, decode_encode .xf3⟩

/-- Settles O2: a decoded code is found in a row of its table, and every instruction has a row. -/
theorem decodeInvertsEncode : Obligations.DecodeInvertsEncode := by
  refine fun w i => ⟨fun h => (encode_of_decode h).symm, fun h => ?_⟩
  rw [h, decode_encode]

/-! ### Reserved codes -/

/-- A value that stands in no row of the command table is reserved (30_encoding R75). -/
theorem decodeCmd_of_no_row {b : Byte} (h : ∀ row ∈ cmdRows, b ≠ row.1) :
    decodeCmd b = .error (.reservedCommand b) := by
  have hnone : cmdRows.lookup b = none := List.lookup_eq_none_iff.2 fun row hrow => bne_iff_ne.2 (h row hrow)
  simp only [decodeCmd, hnone]

/-- A code that stands in no row of the micro-state table is reserved (30_encoding R84). -/
theorem decodeMicro_of_no_row {c : MicroCode} (h : ∀ row ∈ microRows, c ≠ row.1) :
    decodeMicro c = .error (.reservedMicroState c) := by
  have hnone : microRows.lookup c = none := List.lookup_eq_none_iff.2 fun row hrow => bne_iff_ne.2 (h row hrow)
  simp only [decodeMicro, hnone]

theorem fetch_of_reservedCommand {s : State} {b : Byte} (hf : s.fsm = Micro.IDLE) (hc : s.cmd = some b)
    (hd : decodeCmd b = .error (.reservedCommand b)) : fetch s = .error .illegalCmd := by
  simp only [fetch, hf, hc, hd, if_true]

theorem fetch_of_reservedMicroState {s : State} (hd : decodeMicro s.fsm = .error (.reservedMicroState s.fsm)) :
    fetch s = .error .internalError := by
  have hf : s.fsm ≠ Micro.IDLE := by
    intro hidle
    rw [hidle] at hd
    cases hd
  simp only [fetch, if_neg hf, hd]

/-- Settles O3: no row of either table holds a reserved code, so the decoder names no instruction and `fetch` answers the
refusal. -/
theorem reservedCodesRefused : Obligations.ReservedCodesRefused := by
  refine ⟨fun b hb => ?_, fun c hc => ?_⟩
  · have hrows : ∀ row ∈ cmdRows, ¬ (row.1 = 0 ∨ 4 ≤ row.1.toNat) := by decide
    have hd : decodeCmd b = .error (.reservedCommand b) :=
      decodeCmd_of_no_row fun row hrow heq => hrows row hrow (heq ▸ hb)
    exact ⟨hd, fun s hf hcmd => masterStep_of_fetch_error (fetch_of_reservedCommand hf hcmd hd)⟩
  · have hrows : ∀ row ∈ microRows, ¬ ((0x04 ≤ row.1.toNat ∧ row.1.toNat ≤ 0x07) ∨ row.1.toNat = 0x17 ∨
        (0x1B ≤ row.1.toNat ∧ row.1.toNat ≤ 0x1F) ∨ row.1.toNat = 0x26 ∨ 0x39 ≤ row.1.toNat) := by decide
    have hd : decodeMicro c = .error (.reservedMicroState c) :=
      decodeMicro_of_no_row fun row hrow heq => hrows row hrow (heq ▸ hc)
    refine ⟨hd, fun s hf => masterStep_of_fetch_error (fetch_of_reservedMicroState ?_)⟩
    rw [hf, hd]

/-! ### Port writes -/

/-- The port is locked while a command runs or is pending (30_encoding R76). -/
theorem portLocked_iff {s : State} : portLocked s = true ↔ s.busy = true ∨ s.cmd ≠ none := by
  simp [portLocked, Option.isSome_iff_ne_none]

theorem not_portLocked {s : State} (hbusy : s.busy = false) (hcmd : s.cmd = none) : ¬ portLocked s = true := by
  simp [portLocked_iff, hbusy, hcmd]

theorem hostWrite_of_locked {s : State} {o : Nat} (v : Nat) (hlock : portLocked s = true) (ho : o ≤ 5) :
    hostWrite s o v = refuse .hostBusy := by
  interval_cases o <;> exact if_pos hlock

theorem hostWrite_of_no_port (s : State) {o : Nat} (v : Nat) (ho : 5 < o) :
    hostWrite s o v = .fault (.noSuchPort o) := by
  obtain ⟨n, rfl⟩ := Nat.exists_eq_add_of_le' (show 6 ≤ o from ho)
  rfl

section
variable {s : State} {v : Nat} (hfree : ¬ portLocked s = true)
include hfree

theorem hostWrite_cmd : hostWrite s 0 v = storeIfFits (fitsByte v) { s with cmd := some (BitVec.ofNat 8 v) } :=
  if_neg hfree

theorem hostWrite_status : hostWrite s 1 v = refuse .readOnly :=
  if_neg hfree

theorem hostWrite_argAddr : hostWrite s 2 v = storeIfFits (fitsByte v) { s with argAddr := BitVec.ofNat 8 v } :=
  if_neg hfree

theorem hostWrite_argData : hostWrite s 3 v = storeIfFits (fitsByte v) { s with argData := BitVec.ofNat 8 v } :=
  if_neg hfree

theorem hostWrite_argBuf : hostWrite s 4 v = storeIfFits (s.params.fitsAddr v) { s with argBuf := v } :=
  if_neg hfree

theorem hostWrite_argLen : hostWrite s 5 v = storeIfFits (s.params.fitsLen v) { s with argLen := v } :=
  if_neg hfree

end

theorem storeIfFits_of_fits {fits : Bool} (t : State) (h : fits = true) : storeIfFits fits t = .next t := if_pos h

theorem storeIfFits_of_too_wide {fits : Bool} (t : State) (h : fits = false) :
    storeIfFits fits t = refuse .operandRange := by
  rw [h]; rfl

/-- Settles O38: the lock is checked first, then the offset's own rule. -/
theorem hostWriteOfCommand : Obligations.HostWriteOfCommand := by
  refine ⟨fun s v hbusy hcmd => ?_, fun s o v hlock ho => hostWrite_of_locked v (portLocked_iff.2 hlock) ho,
    fun s o v ho => hostWrite_of_no_port s v ho⟩
  have hfree := not_portLocked hbusy hcmd
  refine ⟨fun hv => ?_, fun hv => ?_, hostWrite_status (v := v) hfree⟩
  · exact (hostWrite_cmd hfree).trans (storeIfFits_of_fits _ (decide_eq_true hv))
  · exact (hostWrite_cmd hfree).trans (storeIfFits_of_too_wide _ (decide_eq_false hv.not_gt))

/-! ### Port reads -/

/-- A read notes the value of the register and changes nothing else (30_encoding R72, R75; log 2). -/
theorem perform_readPort {s : State} {o v : Nat} (h : portValue s o = some v) :
    perform s (.readPort o) = .next { s with hostReads := s.hostReads ++ [.port o v] } := by
  simp only [perform, hostRead, h, noteRead]

/-- STATUS as a number (30_encoding R72). -/
theorem statusByte_toNat (s : State) :
    (statusByte s).toNat =
      (if s.busy = true then 1 else 0) + (if s.result = true then 2 else 0) + (if s.initDone = true then 4 else 0) := by
  unfold statusByte
  cases s.busy <;> cases s.result <;> cases s.initDone <;> rfl

/-- Settles O39: at each of the six offsets the value noted is the register's; a poll is a read of offset 1. -/
theorem hostReadsPort : Obligations.HostReadsPort := by
  refine fun s => ⟨fun o ho => ?_, rfl⟩
  interval_cases o
  all_goals exact ⟨_, perform_readPort rfl, by simp [statusByte_toNat]⟩

end Sys2Proof.Machine

/-! ### The lines that issue a command -/

namespace Sys2Proof.Safety

open Sys2Proof.Machine

/-- An event whose turn it is and that is enabled is the whole step (60_exceptions R251). -/
theorem step_of_due_event {s : State} {e : Event} {rest : List Arrival} (harr : s.arrivals = ⟨0, e⟩ :: rest)
    (hen : enabled s e = true) : step s = perform { s with arrivals := rest } e := by
  simp [step, dueEvent, harr, hen]

/-- A due port write whose value fits is the first step of a run. -/
theorem runs_writePort {s t : State} {o v n : Nat} {rest : List Arrival} {fits : Bool}
    (harr : s.arrivals = ⟨0, .writePort o v⟩ :: rest)
    (hw : hostWrite { s with arrivals := rest } o v = storeIfFits fits t) (hfits : fits = true) :
    runs (n + 1) s = runs n t :=
  runs_succ_of_next ((step_of_due_event harr rfl).trans (hw.trans (storeIfFits_of_fits t hfits)))

/-- The last write of a line: the command byte becomes the pending write (30_encoding R74). -/
theorem runs_writeCommand {s : State} {c : Nat} {rest : List Arrival} (hfree : ¬ portLocked s = true) (hc : c < 2 ^ 8)
    (harr : s.arrivals = ⟨0, .writePort 0 c⟩ :: rest) :
    runs 1 s = .next { s with cmd := some (BitVec.ofNat 8 c), arrivals := rest } :=
  runs_writePort harr (hostWrite_cmd hfree) (decide_eq_true hc)

/-- TRANSFER's line: ARG_BUF, ARG_LEN and the command (30_encoding R87). -/
theorem runs_transferLine {s : State} {buf len : Nat} {rest : List Arrival} (hfree : ¬ portLocked s = true)
    (hbuf : buf < 2 ^ s.params.addrBits) (hlen : len < 2 ^ s.params.lenBits)
    (harr : s.arrivals = commandEvents (.transfer buf len) ++ rest) :
    runs 3 s = .next { s with argBuf := buf, argLen := len, cmd := some 0x02#8, arrivals := rest } := by
  calc runs 3 s
    _ = runs 2 { s with argBuf := buf, arrivals := ⟨0, .writePort 5 len⟩ :: ⟨0, .writePort 0 0x02⟩ :: rest } :=
      runs_writePort harr (hostWrite_argBuf hfree) (decide_eq_true hbuf)
    _ = runs 1 { s with argBuf := buf, argLen := len, arrivals := ⟨0, .writePort 0 0x02⟩ :: rest } :=
      runs_writePort rfl (hostWrite_argLen hfree) (decide_eq_true hlen)
    _ = _ := runs_writeCommand hfree (by decide) rfl

/-- WRITE_BYTE's line: ARG_ADDR, ARG_DATA and the command (30_encoding R87). -/
theorem runs_writeByteLine {s : State} {addr data : Nat} {rest : List Arrival} (hfree : ¬ portLocked s = true)
    (haddr : addr < 2 ^ 8) (hdata : data < 2 ^ 8) (harr : s.arrivals = commandEvents (.writeByte addr data) ++ rest) :
    runs 3 s = .next { s with argAddr := BitVec.ofNat 8 addr, argData := BitVec.ofNat 8 data, cmd := some 0x03#8,
                              arrivals := rest } := by
  calc runs 3 s
    _ = runs 2 { s with argAddr := BitVec.ofNat 8 addr,
                        arrivals := ⟨0, .writePort 3 data⟩ :: ⟨0, .writePort 0 0x03⟩ :: rest } :=
      runs_writePort harr (hostWrite_argAddr hfree) (decide_eq_true haddr)
    _ = runs 1 { s with argAddr := BitVec.ofNat 8 addr, argData := BitVec.ofNat 8 data,
                        arrivals := ⟨0, .writePort 0 0x03⟩ :: rest } :=
      runs_writePort rfl (hostWrite_argData hfree) (decide_eq_true hdata)
    _ = _ := runs_writeCommand hfree (by decide) rfl

/-- Settles O41: each line is its operand writes and then the command's; PROBE is a TRANSFER of length 1 (30_encoding
R89). -/
theorem commandLinesIssue : Obligations.CommandLinesIssue := by
  intro s rest hbusy hcmd
  have hfree := not_portLocked hbusy hcmd
  exact ⟨fun harr => runs_writeCommand hfree (by decide) harr,
    fun buf len hbuf hlen harr => runs_transferLine hfree hbuf hlen harr,
    fun addr data haddr hdata harr => runs_writeByteLine hfree haddr hdata harr,
    fun buf hbuf hone harr => runs_transferLine hfree hbuf hone harr⟩

end Sys2Proof.Safety

/-! ### What the master puts on the lines -/

namespace Sys2Proof.Machine

/-- SCL is pulled exactly if it is an output at level 0 (40_line_primitives R101). -/
theorem sclPull_iff {s : State} : sclPull s = true ↔ s.ddrScl = true ∧ s.portScl = false := by
  simp [sclPull]

/-- SDA is pulled exactly if it is an output with its latch or DR[7] at 0 (40_line_primitives R101). -/
theorem sdaPull_iff {s : State} :
    sdaPull s = true ↔ s.ddrSda = true ∧ (s.portSda = false ∨ s.dr.getLsbD 7 = false) := by
  simp [sdaPull]

/-- A level reads high exactly if the master does not pull and the environment answers 1 (40_line_primitives R102). -/
theorem sclLevel_iff {s : State} {e : Bool} : sclLevel s e = true ↔ sclPull s = false ∧ e = true := by
  simp [sclLevel]

theorem sdaLevel_iff {s : State} {e : Bool} : sdaLevel s e = true ↔ sdaPull s = false ∧ e = true := by
  simp [sdaLevel]

/-- While the environment's list lasts, its head is the next answer (log 1). -/
theorem nextScl_of_cons {s : State} {e : Bool} {rest : List Bool} (h : s.envScl = e :: rest) : nextScl s = e := by
  rw [nextScl, h, List.headD_cons]

theorem nextSda_of_cons {s : State} {e : Bool} {rest : List Bool} (h : s.envSda = e :: rest) : nextSda s = e := by
  rw [nextSda, h, List.headD_cons]

/-- Settles O11: the four line functions, each by its truth table, and the head of the environment's list. -/
theorem lineLevels : Obligations.LineLevels :=
  ⟨fun _ => sclPull_iff, fun _ => sdaPull_iff, fun _ _ => sclLevel_iff, fun _ _ => sdaLevel_iff,
    fun _ _ _ => nextScl_of_cons, fun _ _ _ => nextSda_of_cons⟩

end Sys2Proof.Machine

/-! ### The start and the stop condition -/

namespace Sys2Proof.Safety

open Sys2Proof.Machine

/-- The writers of SDA's latches and of DR (10_state R44): the instructions that could move SDA. -/
def sdaWriters : List Instr :=
  [.in0, .st3, .st6, .nk1, .sp0, .wr3, .wr6, .rd0, .rd3, .sp5, .wr1, .rd4, .xf5]

/-- Every other instruction leaves SDA as it was (40_line_primitives R101). -/
theorem exec_sdaPull {i : Instr} {s t : State} (he : exec i s = .next t) (hi : i ∉ sdaWriters) :
    sdaPull t = sdaPull s := by
  have hframe := exec_frame he
  rw [sdaPull, hframe.ddrSda (notMem_of_subset (by decide) hi), hframe.portSda (notMem_of_subset (by decide) hi),
    hframe.dr (notMem_of_subset (by decide) hi)]
  rfl

/-- Where SCL is held low, it is pulled (42_bit_byte_transfer R154). -/
theorem Inv.sclPull_of_low {s : State} {c : MicroCode} (h : Inv s) (hf : s.fsm = c)
    (hl : sclLatches c = some (true, false)) : sclPull s = true :=
  sclPull_iff.2 (h.scl_latches hf hl)

/-- Where nothing is known of SDA's latches, SDA is released (41_initializer R136). -/
theorem Inv.sdaPull_of_released {s : State} {c : MicroCode} (h : Inv s) (hf : s.fsm = c) (hx : inXfer c = false)
    (hl : sdaLatches c = none) : sdaPull s = false := by
  have hsda := h.sda
  rw [site_of_fsm hf hx, hl] at hsda
  exact latched_none.1 hsda

/-- While SCL is released, only ST3 and SP5 move SDA: IN0 and NK1 find it released and leave it so, XF5 pulls SCL in the
same step, and every other writer of SDA stands where SCL is held low. -/
theorem Inv.exec_sdaPull_of_released {i : Instr} {s t : State} (h : Inv s) (hi : encode i = .micro s.fsm)
    (he : exec i s = .next t) (hs : sclPull s = false) (ht : sclPull t = false) (hst3 : s.fsm ≠ Micro.ST3)
    (hsp5 : s.fsm ≠ Micro.SP5) : sdaPull t = sdaPull s := by
  by_cases hw : i ∈ sdaWriters
  · cases i with
    | st3 =>
      injection hi with hf
      exact absurd hf.symm hst3
    | sp5 =>
      injection hi with hf
      exact absurd hf.symm hsp5
    | in0 =>
      injection hi with hf
      rw [h.sdaPull_of_released hf.symm rfl rfl]
      cases he
      simp [sdaPull, driveHigh_scl, driveHigh_sda, writeCr, CR_TWI, writeSr, loadDr]
    | nk1 =>
      injection hi with hf
      obtain ⟨hd, -⟩ := h.sda_latches hf.symm rfl rfl
      cases he
      simp [sdaPull, releaseHigh_sda, hd]
    | xf5 =>
      injection hi with hf
      obtain ⟨hd, hp⟩ := h.scl_latches hf.symm rfl
      simp only [exec, execXf5, shift_strobe_eq] at he
      cases he
      simp [sclPull, hd, hp] at ht
    | st6 | sp0 | wr3 | wr6 | rd0 | rd3 | wr1 | rd4 =>
      injection hi with hf
      rw [h.sclPull_of_low hf.symm rfl] at hs
      cases hs
    | _ => exact absurd hw (by decide)
  · exact exec_sdaPull he hw

/-- A master step that moves SDA with SCL released before and after is ST3's or SP5's (40_line_primitives R118). -/
theorem Inv.st3_or_sp5_of_sda_moves {s t : State} (h : Inv s) (hm : masterStep s = .next t) (hs : sclPull s = false)
    (ht : sclPull t = false) (hmove : sdaPull t ≠ sdaPull s) : s.fsm = Micro.ST3 ∨ s.fsm = Micro.SP5 := by
  obtain ⟨i, hfetch, he⟩ := Machine.masterStep_next hm
  rcases fetch_ok hfetch with ⟨-, -, rfl⟩ | ⟨-, c, -, hd⟩ | ⟨-, hd⟩
  · exact absurd (exec_sdaPull he (by decide)) hmove
  · refine absurd (exec_sdaPull he ?_) hmove
    rcases decodeCmd_cases hd with rfl | rfl | rfl <;> decide
  · by_contra hne
    obtain ⟨hst3, hsp5⟩ := not_or.1 hne
    exact hmove (h.exec_sdaPull_of_released (encode_of_decodeMicro hd) he hs ht hst3 hsp5)

/-- Outside IDLE the master performs the micro-state in STATE (10_state R20). -/
theorem masterStep_of_micro {s : State} {c : MicroCode} {i : Instr} (hf : s.fsm = c) (hc : c ≠ Micro.IDLE)
    (hd : decodeMicro c = .ok i) : masterStep s = exec i s := by
  subst hf
  exact masterStep_of_fetch_ok (fetch_of_micro hc hd)

/-- ST3 pulls SDA, which was released, while SCL is driven high (43_transfer_fsm R165). -/
theorem Inv.sda_falls_at_st3 {s t : State} (h : Inv s) (hm : masterStep s = .next t) (hf : s.fsm = Micro.ST3) :
    sclPull s = false ∧ sclPull t = false ∧ sdaPull s = false ∧ sdaPull t = true := by
  obtain ⟨-, hp⟩ := h.scl_latches hf rfl
  rw [masterStep_of_micro (i := .st3) hf (by decide) rfl] at hm
  cases hm
  exact ⟨by simp [sclPull, hp], by simp [sclPull, driveLow_sda, hp], h.sdaPull_of_released hf rfl rfl, rfl⟩

/-- SP5 releases SDA, which was pulled, while SCL is an input (43_transfer_fsm R192). -/
theorem Inv.sda_rises_at_sp5 {s t : State} (h : Inv s) (hm : masterStep s = .next t) (hf : s.fsm = Micro.SP5) :
    sclPull s = false ∧ sclPull t = false ∧ sdaPull s = true ∧ sdaPull t = false := by
  obtain ⟨hd, -⟩ := h.scl_latches hf rfl
  obtain ⟨hdSda, hpSda⟩ := h.sda_latches hf rfl rfl
  rw [masterStep_of_micro (i := .sp5) hf (by decide) rfl] at hm
  cases hm
  exact ⟨by simp [sclPull, hd], by simp [sclPull, setInput_sda, hd], sdaPull_iff.2 ⟨hdSda, .inl hpSda⟩, rfl⟩

/-- Settles O48: with SCL released only ST3 and SP5 move SDA, ST3 down and SP5 up. -/
theorem startAndStopConditions : Obligations.StartAndStopConditions := by
  intro s t h hm
  refine ⟨⟨fun ⟨hs, ht, hbefore, hafter⟩ => ?_, h.sda_falls_at_st3 hm⟩,
    ⟨fun ⟨hs, ht, hbefore, hafter⟩ => ?_, h.sda_rises_at_sp5 hm⟩⟩
  · rcases h.st3_or_sp5_of_sda_moves hm hs ht (by simp [hbefore, hafter]) with hf | hf
    · exact hf
    · obtain ⟨-, -, hpulled, -⟩ := h.sda_rises_at_sp5 hm hf
      simp [hbefore] at hpulled
  · rcases h.st3_or_sp5_of_sda_moves hm hs ht (by simp [hbefore, hafter]) with hf | hf
    · obtain ⟨-, -, hreleased, -⟩ := h.sda_falls_at_st3 hm hf
      simp [hbefore] at hreleased
    · exact hf

end Sys2Proof.Safety

/-! ### The micro-states of the line primitives -/

namespace Sys2Proof.Safety

open Sys2Proof.Machine

/-- Settles O19: a delay ends in `finish` with the state as it was, so no line moves. -/
theorem delaysChangeOnlyState : Obligations.DelaysChangeOnlyState := by
  have hdelay : ∀ (s : State) (k : MicroCode), finish s s k = .next { s with fsm := k } :=
    fun _ _ => finish_of_same rfl rfl
  exact fun s => ⟨hdelay s _, hdelay s _, hdelay s _, hdelay s _, hdelay s _, hdelay s _, hdelay s _⟩

/-- Settles O20: each ends in `finish` after `driveHigh` or `driveLow`. -/
theorem linesDriven : Obligations.LinesDriven := fun s =>
  ⟨stepsTo_finish s (driveHigh .scl s) _, stepsTo_finish s (logBus .start (driveLow .sda s)) _,
    stepsTo_finish s (driveLow .scl s) _, stepsTo_finish s (driveLow .scl s) _, stepsTo_finish s (driveLow .sda s) _⟩

/-- Settles O21: each ends in `finish` after `releaseHigh`. -/
theorem linesReleasedHigh : Obligations.LinesReleasedHigh := fun s =>
  ⟨stepsTo_finish s (releaseHigh .sda s) _, stepsTo_finish s (releaseHigh .scl s) _,
    stepsTo_finish s (releaseHigh .sda s) _⟩

/-- Settles O22: each ends in `finish` after `setInput` or `setOutput`. -/
theorem lineDirectionsSet : Obligations.LineDirectionsSet := fun s =>
  ⟨stepsTo_finish s (setInput .sda s) _, stepsTo_finish s (setOutput .sda s) _, stepsTo_finish s (setInput .sda s) _,
    stepsTo_finish s (setOutput .sda s) _, stepsTo_finish s (setInput .scl s) _,
    stepsTo_finish s (logBus .stop (setInput .sda s)) _⟩

@[simp] theorem afterSclDraw_trace (s : State) : (afterSclDraw s).trace = s.trace := by
  rw [← takeScl_eq, takeScl_trace]

/-- A wait with no work of its own that reads SCL high leaves the draw, its record and the successor
(40_line_primitives R108). -/
theorem waitSclHigh_id_high {s : State} {self k : MicroCode} (h : sclPull s = false ∧ nextScl s = true) :
    waitSclHigh s self k id = .next { afterSclDraw s with trace := s.trace ++ [.sclHigh], fsm := k } := by
  rw [waitSclHigh_high h, id_eq, settle_of_same (t := goto k (traceLine .sclHigh (afterSclDraw s)))
    (afterSclDraw_sclPull s) (afterSclDraw_sdaPull s), ← afterSclDraw_trace s]
  rfl

/-- Settles O23: the three micro-states are `waitSclHigh` with no work on a high level. -/
theorem clockWaitsPoll : Obligations.ClockWaitsPoll := by
  rintro i self next hi s
  have hwait : exec i s = waitSclHigh s self next id := by
    rcases hi with ⟨rfl, rfl, rfl⟩ | ⟨rfl, rfl, rfl⟩ | ⟨rfl, rfl, rfl⟩ <;> rfl
  rw [hwait]
  exact ⟨waitSclHigh_id_high, waitSclHigh_low⟩

/-- The strobe's count and flag by cases on the wrap (40_line_primitives R113). -/
theorem strobe_eq_wrap (s : State) :
    strobe s = { s with
      portScl := !s.portScl
      cnt := if s.cnt = 15 then 0 else s.cnt + 1
      oif := if s.cnt = 15 then true else s.oif
      cr := 0x2A } := by
  rw [strobe_eq]
  by_cases hwrap : s.cnt = 15
  · simp [hwrap]
  · rw [if_neg hwrap, if_neg hwrap, beq_false_of_ne hwrap, Bool.or_false]

/-- The bit enters at the right (40_line_primitives R114). -/
theorem shiftByte_eq (d : Byte) (b : Bool) : shiftByte d b = (d <<< 1) ||| (if b = true then 1 else 0) := by
  cases b <;> rfl

/-- The end of a step whose record update is known under another form. -/
theorem stepsTo_finish_of_eq {s u : State} (t : State) {k : MicroCode} (h : { t with fsm := k } = u) :
    StepsTo s (finish s t k) u :=
  h ▸ stepsTo_finish s t k

/-- Settles O27: XF2 is a strobe, XF5 a strobe and then a shift of SBIT. -/
theorem strobesCountAndShift : Obligations.StrobesCountAndShift := fun s =>
  ⟨stepsTo_finish_of_eq (strobe s) (by rw [strobe_eq_wrap]),
    stepsTo_finish_of_eq (shift s.sbit (strobe s)) (by rw [shift, shiftByte_eq, strobe_eq_wrap])⟩

end Sys2Proof.Safety

/-! ### The idle micro-state and the initializer -/

namespace Sys2Proof.Machine

/-- The first INIT since a reset is accepted (41_initializer R131). -/
theorem exec_init_of_not_initDone {s : State} (hdone : s.initDone = false) :
    exec .init s = finish s (accept s) Micro.IN0 := by
  simp only [exec, execInit, hdone, Bool.false_eq_true, if_false]

theorem exec_init_of_initDone {s : State} (hdone : s.initDone = true) : exec .init s = refuse .reInit :=
  if_pos hdone

theorem exec_idle_of_no_command {s : State} (hc : s.cmd = none) : exec .idle s = finish s s Micro.IDLE := by
  simp only [exec, execIdle, hc]

/-- IDLE does what the pending command does, so `exec` agrees with `fetch` on it (41_initializer R130). -/
theorem exec_idle_of_decodeCmd {s : State} {c : Byte} {i : Instr} (hc : s.cmd = some c) (hd : decodeCmd c = .ok i) :
    exec .idle s = exec i s := by
  have hrow := mem_cmdRows_of_decodeCmd hd
  simp only [cmdRows, List.mem_cons, Prod.mk.injEq, List.not_mem_nil, or_false] at hrow
  rcases hrow with ⟨rfl, rfl⟩ | ⟨rfl, rfl⟩ | ⟨rfl, rfl⟩ <;> simp only [exec, execIdle, hc] <;> rfl

/-- A pending value that names no command is refused: it is none of the values IDLE compares with (30_encoding R75). -/
theorem exec_idle_of_reservedCommand {s : State} {c : Byte} (hc : s.cmd = some c)
    (hd : decodeCmd c = .error (.reservedCommand c)) : exec .idle s = refuse .illegalCmd := by
  have hne : ∀ b, (decodeCmd b).isOk = true → c ≠ b := by
    rintro b hb rfl
    rw [hd] at hb
    cases hb
  simp only [exec, execIdle, hc]
  rw [if_neg (hne _ rfl), if_neg (hne _ rfl), if_neg (hne _ rfl)]

/-- The preset for eight bits clears the counter and the three flags it can clear (10_state R23, 30_encoding R80). -/
theorem writeSr_eightBit (s : State) :
    writeSr SR_8BIT s = { s with cnt := 0, sif := false, oif := false, pf := false } := by
  simp [writeSr, SR_8BIT]

/-- The write of `CR_TWI` has TC = 0, so it is no strobe (10_state R27, 30_encoding R81). -/
theorem writeCr_twoWire (s : State) : writeCr CR_TWI s = { s with cr := 0x2A } := rfl

end Sys2Proof.Machine

namespace Sys2Proof.Safety

open Sys2Proof.Machine

/-- Settles O12: INIT looks at INIT_DONE only; accepted, it ends in `finish` after `accept`. -/
theorem initAcceptedOnce : Obligations.InitAcceptedOnce := by
  refine ⟨fun s hdone => ?_, fun s hdone => exec_init_of_initDone hdone⟩
  rw [exec_init_of_not_initDone hdone]
  exact stepsTo_finish s (accept s) _

/-- Settles O15: the stutter moves no line; a value in a row of the command table is decoded, and every other value is
refused. -/
theorem idleDecodesCommands : Obligations.IdleDecodesCommands := by
  refine ⟨fun s hf hc => ?_, fun s hc => exec_idle_of_decodeCmd hc rfl, fun s hc => exec_idle_of_decodeCmd hc rfl,
    fun s hc => exec_idle_of_decodeCmd hc rfl, fun s c hc hreserved => ?_⟩
  · rw [exec_idle_of_no_command hc, finish_of_same rfl rfl, ← show s.fsm = Micro.IDLE from hf]
  · exact exec_idle_of_reservedCommand hc (reservedCodesRefused.1 c hreserved).1

/-- Settles O16: IN0 ends in `finish`, and of its writes only the preset of SR depends on the state before. -/
theorem in0Configures : Obligations.In0Configures := by
  intro s
  simp only [exec, execIn0]
  exact stepsTo_finish_of_eq _ (by rw [writeSr_eightBit, writeCr_twoWire]; rfl)

end Sys2Proof.Safety

/-! ### The micro-states of the transfer primitive -/

namespace Sys2Proof.Safety

open Sys2Proof.Machine

/-- The level XF3 samples is the one `sampled` names: the draw for SCL moves no line (42_bit_byte_transfer R144). -/
theorem sampleSda_after_sclHigh (s : State) :
    sampleSda (traceLine .sclHigh (takeScl s)) = { takeSda (takeScl s) with
      sbit := sampled s, trace := s.trace ++ [.sclHigh, .sample (sampled s)] } := by
  have hsampled : sdaLevel (takeScl s) (nextSda (takeScl s)) = sampled s := by
    rw [sdaLevel, takeScl_eq, afterSclDraw_sdaPull, sampled]
  rw [← hsampled, List.append_cons]
  rfl

/-- Settles O24: XF3 is the wait for SCL with the sample as its work on a high level; neither moves a line. -/
theorem xf3SamplesWithHighClock : Obligations.Xf3SamplesWithHighClock := by
  refine fun s => ⟨fun hhigh => ?_, waitSclHigh_low⟩
  have hwait : exec .xf3 s = waitSclHigh s Micro.XF3 Micro.XF4 sampleSda := rfl
  have hscl : sclPull (sampleSda (traceLine .sclHigh (takeScl s))) = sclPull s := by simp [sclPull, sampleSda_eq]
  have hsda : sdaPull (sampleSda (traceLine .sclHigh (takeScl s))) = sdaPull s := by simp [sdaPull, sampleSda_eq]
  rw [hwait, waitSclHigh_high hhigh, ← takeScl_eq, ← finish_eq, finish_of_same hscl hsda, sampleSda_after_sclHigh,
    takeSda_eq]

/-- Settles O25: a call of XFER writes XN and XCONT and moves no line. -/
theorem xferCallSites : Obligations.XferCallSites := by
  have hcall : ∀ (s : State) (n : BitVec 4) (k : MicroCode),
      finish s (callXfer n k s) Micro.XF0 = .next { s with xn := n, xcont := k, fsm := 0x30#6 } :=
    fun _ _ _ => finish_of_same rfl rfl
  exact fun s => ⟨hcall s _ _, hcall s _ _, hcall s _ _, hcall s _ _⟩

/-- ARM writes the counter and clears the three flags (40_line_primitives R112). -/
theorem arm_eq (n : BitVec 4) (s : State) :
    arm n s = { s with cnt := if n = 8 then 0 else 14, oif := false, sif := false, pf := false } := by
  unfold arm
  split
  · exact writeSr_eightBit s
  · simp [writeSr, SR_1BIT]

/-- Settles O26: XF0 ends in `finish` after `arm`, which moves no line. -/
theorem xf0ArmsCounter : Obligations.Xf0ArmsCounter := by
  intro s
  have harm : exec .xf0 s = .next { arm s.xn s with fsm := Micro.XF1 } := finish_of_same rfl rfl
  rw [harm, arm_eq]

/-- Settles O28: XF6 ends in `finish` with the state as it was. -/
theorem xf6TestsDoneFlag : Obligations.Xf6TestsDoneFlag := fun _ => finish_of_same rfl rfl

/-- Settles O29: XF8 ends in `finish` after the write of XRET, which moves no line. -/
theorem xf8ReturnsData : Obligations.Xf8ReturnsData := fun _ => finish_of_same rfl rfl

end Sys2Proof.Safety

/-! ### Runs whose records of the lines are left open -/

namespace Sys2Proof.Safety

open Sys2Proof.Machine

/-- Whatever TRACE holds, `n` steps lead from `s` to `t`, TRACE apart. -/
def RunsTo (n : Nat) (s t : State) : Prop :=
  ∀ tr, ∃ tr', runs n { s with trace := tr } = .next { t with trace := tr' }

theorem RunsTo.refl (s : State) : RunsTo 0 s s := fun tr => ⟨tr, rfl⟩

theorem RunsTo.trans {m n : Nat} {s t u : State} (hst : RunsTo m s t) (htu : RunsTo n t u) : RunsTo (m + n) s u := by
  intro tr
  obtain ⟨tr', ht⟩ := hst tr
  rw [runs_add ht]
  exact htu tr'

/-- The end of such a run, as a state of its own. -/
theorem RunsTo.exists_run {n : Nat} {s t : State} (h : RunsTo n s t) :
    ∃ u, runs n s = .next u ∧ u = { t with trace := u.trace } := by
  obtain ⟨tr, hrun⟩ := h s.trace
  exact ⟨_, hrun, rfl⟩

/-- One master step of the micro-state in STATE, while nothing comes from outside. -/
theorem RunsTo.of_exec {s t : State} {c : MicroCode} {i : Instr} (hf : s.fsm = c) (hc : c ≠ Micro.IDLE)
    (hd : decodeMicro c = .ok i) (harr : s.arrivals = [])
    (hexec : ∀ tr, ∃ tr', exec i { s with trace := tr } = .next { t with trace := tr' }) : RunsTo 1 s t := by
  have hstep : ∀ u : State, u.fsm = c → u.arrivals = [] → step u = exec i u := fun u hu hnone =>
    (step_of_no_event hnone).trans (masterStep_of_micro hu hc hd)
  intro tr
  obtain ⟨tr', he⟩ := hexec tr
  exact ⟨tr', runs_succ_of_next ((hstep { s with trace := tr } hf harr).trans he)⟩

/-! ### Waits -/

theorem afterSclDraw_of_cons {s : State} {e : Bool} {rest : List Bool} (h : s.envScl = e :: rest) :
    afterSclDraw s = { s with envScl := rest } := by
  rw [afterSclDraw, h]

theorem afterSdaDraw_of_cons {s : State} {e : Bool} {rest : List Bool} (h : s.envSda = e :: rest) :
    afterSdaDraw s = { s with envSda := rest } := by
  rw [afterSdaDraw, h]

/-- A micro-state that polls while SCL reads low takes one answer a step and changes nothing else, for any number of low
answers (42_bit_byte_transfer R153, 60_exceptions R236). -/
theorem runsTo_polls {c : MicroCode} {i : Instr} (hc : c ≠ Micro.IDLE) (hd : decodeMicro c = .ok i)
    (hpoll : ∀ u : State, sclPull u = true ∨ nextScl u = false → exec i u = .next { afterSclDraw u with fsm := c })
    (w : Nat) {s : State} {rest : List Bool} (hf : s.fsm = c) (harr : s.arrivals = [])
    (hscl : s.envScl = List.replicate w false ++ rest) : RunsTo w s { s with envScl := rest } := by
  have hlow : ∀ (u : State) (rest : List Bool), u.fsm = c → u.envScl = false :: rest →
      exec i u = .next { u with envScl := rest } := by
    intro u rest hu hcons
    rw [hpoll u (.inr (nextScl_of_cons hcons)), afterSclDraw_of_cons hcons, ← hu]
  induction w generalizing s with
  | zero =>
    have hrest : s.envScl = rest := hscl
    rw [← hrest]
    exact .refl s
  | succ w ih =>
    have hstep : RunsTo 1 s { s with envScl := List.replicate w false ++ rest } :=
      .of_exec hf hc hd harr fun tr => ⟨tr, hlow _ _ hf hscl⟩
    rw [Nat.add_comm]
    exact hstep.trans (ih hf harr rfl)

end Sys2Proof.Safety

/-! ### One bit of the transfer primitive -/

namespace Sys2Proof.Safety

open Sys2Proof.Machine

/-- What the master lets through on SDA while DR shifts out its bit 7 (40_line_primitives R101). -/
theorem not_sdaPull (s : State) : (!sdaPull s) = masterReleases s (s.dr.getLsbD 7) := by
  simp [sdaPull, masterReleases]

/-- XF2 with SCL pulled low is the rising edge (42_bit_byte_transfer R143). -/
theorem exec_xf2_of_low {s : State} (hport : s.portScl = false) (hcnt : s.cnt ≠ 15) :
    ∃ tr, exec .xf2 s = .next { s with fsm := Micro.XF3, portScl := true, cnt := s.cnt + 1, cr := 0x2A, trace := tr } := by
  obtain ⟨hxf2, -⟩ := strobesCountAndShift s
  rw [hport, if_neg hcnt, if_neg hcnt] at hxf2
  exact ⟨_, hxf2⟩

/-- XF5 with SCL released is the falling edge, and shifts the sample in (42_bit_byte_transfer R146). -/
theorem exec_xf5_of_high {s : State} (hport : s.portScl = true) (hoif : s.oif = false) :
    ∃ tr, exec .xf5 s = .next { s with
      fsm := Micro.XF6, portScl := false, cnt := s.cnt + 1, oif := decide (s.cnt = 15), cr := 0x2A
      dr := shiftByte s.dr s.sbit, trace := tr } := by
  have hexec : exec .xf5 s = finish s (shift s.sbit (strobe s)) Micro.XF6 := rfl
  rw [hexec, shift_strobe_eq, hport, hoif]
  exact ⟨_, rfl⟩

/-- XF3 reads SCL high; the answer drawn after SCL's is the sample, where the master releases SDA (42_bit_byte_transfer
R144). -/
theorem exec_xf3_of_high {s : State} {e : Bool} {scl sda : List Bool} (hport : s.portScl = true)
    (hscl : s.envScl = true :: scl) (hsda : s.envSda = e :: sda) :
    ∃ tr, exec .xf3 s = .next { s with
      fsm := Micro.XF4, sbit := masterReleases s (s.dr.getLsbD 7) && e, envScl := scl, envSda := sda, trace := tr } := by
  have hsampled : sampled s = (masterReleases s (s.dr.getLsbD 7) && e) := by
    rw [sampled, not_sdaPull, afterSclDraw_of_cons hscl,
      nextSda_of_cons (s := { s with envScl := scl }) hsda]
  have hhigh : sclPull s = false ∧ nextScl s = true := ⟨by simp [sclPull, hport], nextScl_of_cons hscl⟩
  rw [(xf3SamplesWithHighClock s).1 hhigh, hsampled, afterSclDraw_of_cons hscl,
    afterSdaDraw_of_cons (s := { s with envScl := scl }) hsda]
  exact ⟨_, rfl⟩

/-- The rising edge of a bit, stretched by `w` failed polls, up to the sample (42_bit_byte_transfer R142 to R144). -/
theorem runsTo_risingEdge {s : State} {w : Nat} {e : Bool} {scl sda : List Bool} (hf : s.fsm = Micro.XF1)
    (harr : s.arrivals = []) (hport : s.portScl = false) (hcnt : s.cnt ≠ 15)
    (hscl : s.envScl = List.replicate w false ++ true :: scl) (hsda : s.envSda = e :: sda) :
    RunsTo (1 + 1 + w + 1) s { s with
      fsm := Micro.XF4, portScl := true, cnt := s.cnt + 1, cr := 0x2A
      sbit := masterReleases s (s.dr.getLsbD 7) && e, envScl := scl, envSda := sda } := by
  have hdelay : RunsTo 1 s { s with fsm := Micro.XF2 } :=
    .of_exec hf (by decide) rfl harr fun tr => ⟨tr, finish_of_same rfl rfl⟩
  have hstrobe : RunsTo 1 { s with fsm := Micro.XF2 }
      { s with fsm := Micro.XF3, portScl := true, cnt := s.cnt + 1, cr := 0x2A } :=
    .of_exec (c := Micro.XF2) rfl (by decide) rfl harr fun _ => exec_xf2_of_low hport hcnt
  have hpolls := runsTo_polls (by decide) rfl (fun u => (xf3SamplesWithHighClock u).2) w
    (s := { s with fsm := Micro.XF3, portScl := true, cnt := s.cnt + 1, cr := 0x2A }) rfl harr hscl
  exact ((hdelay.trans hstrobe).trans hpolls).trans
    (.of_exec (c := Micro.XF3) rfl (by decide) rfl harr fun _ => exec_xf3_of_high rfl rfl hsda)

/-- The falling edge of a bit, the shift and the test of the done flag (42_bit_byte_transfer R145 to R147). -/
theorem runsTo_fallingEdge {s : State} (hf : s.fsm = Micro.XF4) (harr : s.arrivals = []) (hport : s.portScl = true)
    (hoif : s.oif = false) :
    RunsTo (1 + 1 + 1) s { s with
      fsm := if decide (s.cnt = 15) = true then Micro.XF7 else Micro.XF1
      portScl := false, cnt := s.cnt + 1, oif := decide (s.cnt = 15), cr := 0x2A, dr := shiftByte s.dr s.sbit } := by
  have hdelay : RunsTo 1 s { s with fsm := Micro.XF5 } :=
    .of_exec hf (by decide) rfl harr fun tr => ⟨tr, finish_of_same rfl rfl⟩
  have hstrobe : RunsTo 1 { s with fsm := Micro.XF5 } { s with
      fsm := Micro.XF6, portScl := false, cnt := s.cnt + 1, oif := decide (s.cnt = 15), cr := 0x2A
      dr := shiftByte s.dr s.sbit } :=
    .of_exec (c := Micro.XF5) rfl (by decide) rfl harr fun _ => exec_xf5_of_high hport hoif
  exact (hdelay.trans hstrobe).trans (.of_exec (c := Micro.XF6) rfl (by decide) rfl harr fun tr => ⟨tr, xf6TestsDoneFlag _⟩)

end Sys2Proof.Safety

/-! ### The bits of a call -/

namespace Sys2Proof.Safety

open Sys2Proof.Machine

/-- The counter with `n` bits still to clock, `(16 - 2n) mod 16`: it wraps at the last falling edge (40_line_primitives
R112). -/
def edgesBefore (n : Nat) : BitVec 4 := BitVec.ofNat 4 (16 - 2 * n)

/-- One bit is two edges, and only the last bit's second edge finds the counter at 15 (42_bit_byte_transfer R152). -/
theorem edgesBefore_succ {n : Nat} (hn : n < 8) :
    edgesBefore (n + 1) ≠ 15 ∧ edgesBefore (n + 1) + 1 + 1 = edgesBefore n ∧
      (edgesBefore (n + 1) + 1 = 15 ↔ n = 0) := by
  have hall : ∀ n < 8, edgesBefore (n + 1) ≠ 15 ∧ edgesBefore (n + 1) + 1 + 1 = edgesBefore n ∧
      (edgesBefore (n + 1) + 1 = 15 ↔ n = 0) := by decide
  exact hall n hn

/-- The top of XFER's loop: the block stands at XF1 with the level latch of SCL at 0 and `n` bits still to clock. -/
structure AtBit (n : Nat) (s : State) : Prop where
  fsm : s.fsm = Micro.XF1
  arrivals : s.arrivals = []
  portScl : s.portScl = false
  oif : s.oif = false
  cnt : s.cnt = edgesBefore n

/-- DR after a bit whose answer on SDA is `e`: the level sampled enters at the right (42_bit_byte_transfer R144, R146). -/
def receiveBit (s : State) (d : Byte) (e : Bool) : Byte := shiftByte d (masterReleases s (d.getLsbD 7) && e)

theorem shiftByte_bit_zero (d : Byte) (b : Bool) : (shiftByte d b).getLsbD 0 = b := by
  simp [shiftByte]

theorem shiftByte_bit_succ (d : Byte) (b : Bool) {k : Nat} (hk : k < 7) :
    (shiftByte d b).getLsbD (k + 1) = d.getLsbD k := by
  have hk8 : k + 1 < 8 := by omega
  simp [shiftByte, hk8, BitVec.getLsbD_eq_getElem (show k < 8 by omega)]

theorem receiveBit_bit_zero (s : State) (d : Byte) (e : Bool) :
    (receiveBit s d e).getLsbD 0 = (masterReleases s (d.getLsbD 7) && e) :=
  shiftByte_bit_zero _ _

/-- DR after the bits whose answers on SDA are `bits`. -/
def received (s : State) (bits : List Bool) : Byte := bits.foldl (receiveBit s) s.dr

/-- One bit, stretched by `w` failed polls (42_bit_byte_transfer R142 to R147, R153). -/
theorem AtBit.runsTo_bit {n w : Nat} {s : State} {e : Bool} {scl sda : List Bool} (h : AtBit (n + 1) s) (hn : n < 8)
    (hscl : s.envScl = List.replicate w false ++ true :: scl) (hsda : s.envSda = e :: sda) :
    RunsTo (6 + w) s { s with
      fsm := if n = 0 then Micro.XF7 else Micro.XF1
      portScl := false, cnt := edgesBefore n, oif := decide (n = 0), cr := 0x2A
      dr := receiveBit s s.dr e, sbit := (receiveBit s s.dr e).getLsbD 0, envScl := scl, envSda := sda } := by
  obtain ⟨hne, htwo, hlast⟩ := edgesBefore_succ hn
  rw [← h.cnt] at hne htwo hlast
  have hrise := runsTo_risingEdge h.fsm h.arrivals h.portScl hne hscl hsda
  have hbit := hrise.trans (runsTo_fallingEdge rfl h.arrivals rfl h.oif)
  simp only [hlast, htwo, decide_eq_true_eq] at hbit
  rw [show 6 + w = 1 + 1 + w + 1 + (1 + 1 + 1) by omega, receiveBit_bit_zero]
  exact hbit

theorem stretched_cons (w : Nat) (ws : List Nat) (rest : List Bool) :
    stretched (w :: ws) ++ rest = List.replicate w false ++ true :: (stretched ws ++ rest) := by
  simp [stretched]

/-- All the bits of a call, each stretched by its own number of failed polls (42_bit_byte_transfer R150 to R153). -/
theorem AtBit.runsTo_bits {s : State} {ws : List Nat} {bits scl sda : List Bool} (h : AtBit bits.length s)
    (hpos : bits ≠ []) (hle : bits.length ≤ 8) (hlen : ws.length = bits.length) (hscl : s.envScl = stretched ws ++ scl)
    (hsda : s.envSda = bits ++ sda) :
    RunsTo (6 * bits.length + ws.sum) s { s with
      fsm := Micro.XF7, portScl := false, cnt := 0, oif := true, cr := 0x2A
      dr := received s bits, sbit := (received s bits).getLsbD 0, envScl := scl, envSda := sda } := by
  induction bits generalizing s ws with
  | nil => exact absurd rfl hpos
  | cons e es ih =>
    obtain ⟨w, ws, rfl⟩ := List.exists_cons_of_length_eq_add_one hlen
    rw [List.length_cons] at h hle hlen
    rw [stretched_cons] at hscl
    have hbit := h.runsTo_bit (by omega) hscl hsda
    cases es with
    | nil =>
      obtain rfl : ws = [] := List.eq_nil_of_length_eq_zero (by simpa using hlen)
      exact hbit
    | cons e' es =>
      rw [List.length_cons, List.sum_cons, show 6 * ((e' :: es).length + 1) + (w + ws.sum) =
        6 + w + (6 * (e' :: es).length + ws.sum) by omega]
      exact hbit.trans (ih ⟨rfl, h.arrivals, rfl, rfl, rfl⟩ (List.cons_ne_nil _ _) (by omega) (Nat.succ.inj hlen) rfl rfl)

/-! ### The byte received -/

/-- DR holds the newest sample in bit 0; above the `n` samples stand the bits it held before (42_bit_byte_transfer R150,
20_memory R56). -/
theorem foldl_receiveBit_getLsbD (s : State) (bits : List Bool) (d : Byte) (hle : bits.length ≤ 8) {j : Nat} (hj : j < 8) :
    (bits.foldl (receiveBit s) d).getLsbD j =
      if j < bits.length then
        masterReleases s (d.getLsbD (8 - bits.length + j)) && bits.getD (bits.length - 1 - j) false
      else d.getLsbD (j - bits.length) := by
  induction bits generalizing d with
  | nil => rfl
  | cons e es ih =>
    rw [List.length_cons] at hle
    rw [List.foldl_cons, ih _ (by omega), List.length_cons]
    have hshift : ∀ k < 7, (receiveBit s d e).getLsbD (k + 1) = d.getLsbD k := fun _ => shiftByte_bit_succ _ _
    rcases Nat.lt_trichotomy j es.length with hlt | heq | hgt
    · have hbit := hshift (7 - es.length + j) (by omega)
      have hget : (e :: es).getD (es.length - j) false = es.getD (es.length - 1 - j) false := by
        rw [show es.length - j = es.length - 1 - j + 1 by omega, List.getD_cons_succ]
      rw [if_pos hlt, if_pos (by omega), show 8 - es.length + j = 7 - es.length + j + 1 by omega, hbit,
        show 8 - (es.length + 1) + j = 7 - es.length + j by omega,
        show es.length + 1 - 1 - j = es.length - j by omega, hget]
    · rw [if_neg (by omega), if_pos (by omega), show j - es.length = 0 by omega, receiveBit_bit_zero,
        show 8 - (es.length + 1) + j = 7 by omega, show es.length + 1 - 1 - j = 0 by omega, List.getD_cons_zero]
    · have hbit := hshift (j - (es.length + 1)) (by omega)
      rw [if_neg (by omega), if_neg (by omega), show j - es.length = j - (es.length + 1) + 1 by omega, hbit]

/-! ### The whole call -/

/-- The end of a call: a delay, and the return of DR (42_bit_byte_transfer R148, R149). -/
theorem runsTo_return {s : State} (hf : s.fsm = Micro.XF7) (harr : s.arrivals = []) :
    RunsTo (1 + 1) s { s with fsm := s.xcont, xret := s.dr } := by
  have hdelay : RunsTo 1 s { s with fsm := Micro.XF8 } :=
    .of_exec hf (by decide) rfl harr fun tr => ⟨tr, finish_of_same rfl rfl⟩
  exact hdelay.trans (.of_exec (c := Micro.XF8) rfl (by decide) rfl harr fun tr => ⟨tr, xf8ReturnsData _⟩)

/-- A call of XFER for `n` bits, from XF0 to the continuation (42_bit_byte_transfer R150 to R153). -/
theorem runsTo_xfer {s : State} {ws : List Nat} {bits scl sda : List Bool} (hn : bits.length = 8 ∨ bits.length = 1)
    (hxn : s.xn = BitVec.ofNat 4 bits.length) (hf : s.fsm = Micro.XF0) (harr : s.arrivals = [])
    (hport : s.portScl = false) (hlen : ws.length = bits.length) (hscl : s.envScl = stretched ws ++ scl)
    (hsda : s.envSda = bits ++ sda) :
    RunsTo (1 + (6 * bits.length + ws.sum) + (1 + 1)) s { s with
      fsm := s.xcont, portScl := false, cnt := 0, oif := true, sif := false, pf := false, cr := 0x2A
      dr := received s bits, xret := received s bits, sbit := (received s bits).getLsbD 0
      envScl := scl, envSda := sda } := by
  have hpos : bits ≠ [] := by
    rintro rfl
    simp at hn
  have hle : bits.length ≤ 8 := by omega
  have hpreset : (if s.xn = 8 then 0 else 14) = edgesBefore bits.length := by
    rcases hn with h8 | h1
    · rw [hxn, h8]; rfl
    · rw [hxn, h1]; rfl
  have harm : RunsTo 1 s { s with
      fsm := Micro.XF1, cnt := edgesBefore bits.length, oif := false, sif := false, pf := false } := by
    rw [← hpreset]
    exact .of_exec hf (by decide) rfl harr fun tr => ⟨tr, xf0ArmsCounter _⟩
  have hbits := AtBit.runsTo_bits (s := { s with
      fsm := Micro.XF1, cnt := edgesBefore bits.length, oif := false, sif := false, pf := false })
    ⟨rfl, harr, hport, rfl, rfl⟩ hpos hle hlen hscl hsda
  exact (harm.trans hbits).trans (runsTo_return rfl harr)

/-- Settles O54: XF0 arms the counter, the loop clocks the bits, and DR is read bit by bit at the end. -/
theorem xferReturnsSampledBits : Obligations.XferReturnsSampledBits := by
  intro n s ws bits scl sda hn hxn hf harr _ hport hws hbits hscl hsda
  subst hbits
  obtain ⟨t, hrun, ht⟩ := (runsTo_xfer hn hxn hf harr hport hws hscl hsda).exists_run
  rw [show 1 + (6 * bits.length + ws.sum) + (1 + 1) = 3 + 6 * bits.length + ws.sum by omega] at hrun
  have hdr : t.dr = received s bits := by rw [ht]
  refine ⟨t, hrun, ?_, fun j hj => ?_⟩
  · rw [hdr, hport]
    exact ht
  · rw [hdr]
    exact foldl_receiveBit_getLsbD s bits s.dr (by omega) hj

end Sys2Proof.Safety

/-! ### The micro-states of a transfer, one step each (43_transfer_fsm) -/

namespace Sys2Proof.Safety

open Sys2Proof.Machine

/-- A TRANSFER whose checks pass is accepted (43_transfer_fsm R160). -/
theorem exec_transfer_of_checks {s : State} (hdone : s.initDone = true) (hlen : 1 ≤ s.argLen)
    (hfit : s.argBuf + s.argLen ≤ s.params.memSize) :
    exec .transfer s = finish s { accept s with bufsel := false } Micro.TR0 := by
  simp only [exec, execTransfer]
  rw [if_neg (by simp [hdone]), if_neg (by omega), if_neg (by omega)]

/-- Settles O13: the three checks of R160 in their order, and the acceptance when all of them pass. -/
theorem transferDecode : Obligations.TransferDecode := by
  refine ⟨fun s hdone hlen hfit => ?_, fun s hdone => if_pos (by simp [hdone]), fun s hdone hlen => ?_,
    fun s hdone hlen hfit => ?_⟩
  · rw [exec_transfer_of_checks hdone hlen hfit]
    exact stepsTo_finish s { accept s with bufsel := false } _
  · simp only [exec, execTransfer]
    rw [if_neg (by simp [hdone]), if_pos hlen]
    rfl
  · simp only [exec, execTransfer]
    rw [if_neg (by simp [hdone]), if_neg (by omega), if_pos hfit]
    rfl

/-- Settles O17: TR0 ends in `finish` after the writes of R161. -/
theorem tr0SetsUpTransfer : Obligations.Tr0SetsUpTransfer := fun s =>
  stepsTo_finish s { s with rem := transferLength s, idx := 0, phase := Phase.ADDRESS } _

/-! BD is a case split on PHASE (43_transfer_fsm R169). -/

theorem exec_bd_of_address {s : State} (hphase : s.phase = Phase.ADDRESS) :
    exec .bd s = onAccess (bufRead s 0) fun b => finish s { s with phase := directionPhase b } Micro.WR0 :=
  if_pos hphase

theorem exec_bd_of_write {s : State} (hphase : s.phase = Phase.WRITE) :
    exec .bd s = .next { s with fsm := Micro.WR0 } := by
  simp only [exec, execBd]
  rw [if_neg (by simp [hphase]), if_pos hphase]
  exact finish_of_same rfl rfl

theorem exec_bd_of_read {s : State} (hphase : s.phase = Phase.READ) :
    exec .bd s = .next { s with fsm := Micro.RD0 } := by
  simp only [exec, execBd]
  rw [if_neg (by simp [hphase]), if_neg (by simp [hphase]), if_pos hphase]
  exact finish_of_same rfl rfl

/-- No byte 0 exists only outside host memory: TMPBUF has one (10_state R38). -/
theorem bufsel_of_not_bufferHas_zero {s : State} (h : bufferHas s 0 = false) : s.bufsel = false := by
  by_contra hb
  simp [bufferHas, hb] at h

/-- BD's first visit, with a byte 0 to classify. -/
theorem exec_bd_of_first_visit {s : State} (hphase : s.phase = Phase.ADDRESS) (hhas : bufferHas s 0 = true) :
    exec .bd s = .next { s with phase := directionPhase (addressByte s), fsm := Micro.WR0 } := by
  rw [exec_bd_of_address hphase, bufRead_of_has hhas]
  exact finish_of_same rfl rfl

/-- Settles O30: only the case ADDRESS reads the buffer, and PHASE = 3 is none of the three. -/
theorem bdDispatches : Obligations.BdDispatches := by
  refine ⟨fun s => exec_bd_of_first_visit, fun s => exec_bd_of_write, fun s => exec_bd_of_read, fun s hphase => ?_,
    fun s hphase hhas => ?_⟩
  · simp only [exec, execBd]
    rw [if_neg (by simp [hphase]), if_neg (by simp [hphase]), if_neg (by simp [hphase])]
    rfl
  · rw [exec_bd_of_address hphase, bufRead_of_not_has hhas, bufsel_of_not_bufferHas_zero hhas]
    rfl

/-! WR1 and WR5 read the byte at IDX before anything else (43_transfer_fsm R171, R175). -/

theorem exec_wr1_of_bufRead {s : State} {b : Byte} (hread : bufRead s s.idx = .ok b) :
    exec .wr1 s = finish s (loadDr b s) Micro.WR2 := by
  simp only [exec, execWr1, hread, onAccess_ok]

theorem exec_wr5_of_bufRead {s : State} {b : Byte} (hread : bufRead s s.idx = .ok b) :
    exec .wr5 s = .next { s with
      buslog := s.buslog ++ [.tx b (s.xret.getLsbD 0)], fsm := if s.xret.getLsbD 0 then Micro.NK0 else Micro.WR6 } := by
  simp only [exec, execWr5, hread, onAccess_ok]
  exact finish_of_same rfl rfl

/-- Settles O31: both micro-states read the byte at IDX; WR5 then looks at bit 0 of XRET alone. -/
theorem writePathSendsBufferByte : Obligations.WritePathSendsBufferByte := by
  refine ⟨fun s hhas => ?_, fun s hhas => ?_⟩
  · have hread := bufRead_of_has hhas
    rw [exec_wr1_of_bufRead hread, exec_wr5_of_bufRead hread]
    exact ⟨stepsTo_finish s (loadDr (bufferByte s s.idx) s) _, fun hbit => by rw [hbit]; rfl,
      fun hbit => by rw [hbit]; rfl⟩
  · have hread := bufRead_of_not_has hhas
    exact ⟨_, by simp only [exec, execWr1, hread, onAccess_error],
      by simp only [exec, execWr5, hread, onAccess_error], rfl⟩

/-- Settles O32: NK2 ends in `finish` after `complete false` and the log of the abort, which move no line. -/
theorem nk2ReturnsFailure : Obligations.Nk2ReturnsFailure := fun _ => finish_of_same rfl rfl

/-- Settles O33: SP7 ends in `finish` after `complete true`, which moves no line. -/
theorem sp7ReturnsSuccess : Obligations.Sp7ReturnsSuccess := fun _ => finish_of_same rfl rfl

/-- RD2 with BUFSEL = 0 writes host memory, which moves no line (43_transfer_fsm R182). -/
theorem exec_rd2_of_lt {s : State} (hb : s.bufsel = false) (haddr : s.argBuf + s.idx < s.params.memSize) :
    exec .rd2 s = .next { s with mem := memPut s.mem (s.argBuf + s.idx) s.xret, fsm := Micro.RD3 } :=
  bufWrite_next.2 ⟨hb, haddr, finish_of_same rfl rfl⟩

/-- Settles O34: RD2 is the buffer write of R182; the rules of the memory say which byte changes. -/
theorem rd2StoresReceivedByte : Obligations.Rd2StoresReceivedByte := by
  refine ⟨fun s hb haddr => ⟨_, exec_rd2_of_lt hb haddr, rfl, fun hwf => ⟨memPut_wf _ _ hwf, fun a => ?_⟩⟩,
    fun s hb => if_pos hb, fun s hb haddr => ?_⟩
  · exact memGet_memPut _ _ _ hwf
  · simp only [exec, execRd2, bufWrite, hb, bufAddr]
    rw [if_neg (by decide), memWrite_of_not_lt _ (by omega), onAccess_error]

/-! RD4 answers with NACK or ACK as REM says, in DR and in the log alike (43_transfer_fsm R184). -/

theorem exec_rd4_of_last {s : State} (hrem : s.rem = 1) :
    exec .rd4 s = finish s (logBus (.rx s.xret true) (loadDr 0xFF s)) Micro.RD5 := if_pos hrem

theorem exec_rd4_of_not_last {s : State} (hrem : s.rem ≠ 1) :
    exec .rd4 s = finish s (logBus (.rx s.xret false) (loadDr 0x00 s)) Micro.RD5 := if_neg hrem

/-- Settles O35: RD4 compares REM with 1 and ends in `finish`. -/
theorem rd4ChoosesAcknowledge : Obligations.Rd4ChoosesAcknowledge :=
  ⟨fun s hrem => exec_rd4_of_last hrem ▸ stepsTo_finish s (logBus (.rx s.xret true) (loadDr 0xFF s)) _,
    fun s hrem => exec_rd4_of_not_last hrem ▸ stepsTo_finish s (logBus (.rx s.xret false) (loadDr 0x00 s)) _⟩

/-- LP in terms of the LEN_BITS arithmetic (43_transfer_fsm R186). -/
theorem exec_lp_eq (s : State) : exec .lp s = .next { s with
    rem := lenDec s.params s.rem, idx := lenInc s.params s.idx
    fsm := if lenDec s.params s.rem = 0 then Micro.SP0 else Micro.BD } := by
  rw [← ite_not]
  exact finish_of_same rfl rfl

/-- Counting down and up again is the identity in LEN_BITS bits. -/
theorem lenDec_succ_mod (p : Params) (v : Nat) : (lenDec p v + 1) % 2 ^ p.lenBits = v % 2 ^ p.lenBits := by
  have hpos : 0 < 2 ^ p.lenBits := Nat.two_pow_pos _
  rw [lenDec, Nat.mod_add_mod, Nat.sub_add_cancel (by omega), Nat.add_mod_right]

/-- Settles O36: in the rule's range neither register wraps; everywhere they count modulo 2^LEN_BITS. -/
theorem lpCountsByte : Obligations.LpCountsByte := by
  refine ⟨fun s hpos hrem hidx => ?_, fun s => ⟨_, exec_lp_eq s, rfl, Nat.mod_lt _ (Nat.two_pow_pos _),
    lenDec_succ_mod _ _, rfl, rfl⟩⟩
  rw [exec_lp_eq, lenDec_of_pos hpos hrem, lenInc_of_lt hidx]
  have hlast : s.rem - 1 = 0 ↔ s.rem = 1 := by omega
  simp only [hlast, Micro.SP0, Micro.BD]

end Sys2Proof.Safety

/-! ### Which host byte a master step changes, and the acknowledge of a received byte -/

namespace Sys2Proof.Safety

open Sys2Proof.Machine

/-- Only RD2 writes host memory, and it is performed in the micro-state RD2 alone (20_memory R53). -/
theorem fsm_of_masterStep_mem {s t : State} (hm : masterStep s = .next t) (hmem : t.mem ≠ s.mem) :
    s.fsm = Micro.RD2 ∧ exec .rd2 s = .next t := by
  obtain ⟨i, hfetch, he⟩ := Machine.masterStep_next hm
  obtain rfl : i = .rd2 := by_contra fun hi => hmem ((exec_frame he).mem hi)
  rcases fetch_ok hfetch with ⟨-, -, hi⟩ | ⟨-, c, -, hd⟩ | ⟨-, hd⟩
  · cases hi
  · exact absurd (decodeCmd_cases hd) (by decide)
  · injection encode_of_decodeMicro hd with hf
    exact ⟨hf.symm, he⟩

/-- In the read phase the buffer is the host's, and the current byte is a data byte of it (43_transfer_fsm R182). -/
theorem Inv.read_buffer {s : State} (h : Inv s) {c : MicroCode} (hf : s.fsm = c) (hx : inXfer c = false)
    (hc : reading c = true) :
    s.bufsel = false ∧ s.phase = Phase.READ ∧ 1 ≤ s.idx ∧ s.idx + s.rem = s.argLen ∧ 1 ≤ s.rem ∧
      s.argBuf + s.argLen ≤ s.params.memSize := by
  have hsite : site s = c := site_of_fsm hf hx
  have hplace : ∀ k : MicroCode, reading k = true → setUp k = true ∧ classified k = true ∧ stopping k = false := by
    decide
  obtain ⟨hset, hcls, hstop⟩ := hplace c hc
  have htr : transferring s.fsm = true := transferring_of_setUp (hf ▸ hset)
  obtain ⟨hread, hpos⟩ := h.reads (hsite ▸ hc)
  have hb := h.bufsel_of_read htr (hsite ▸ hcls) hread
  obtain ⟨hsum, hrem⟩ := h.count (hf ▸ hset)
  have hrem0 : s.rem ≠ 0 := fun h0 => by simp [← hsite, hrem.1 h0] at hstop
  rw [transferLength, hb] at hsum
  exact ⟨hb, hread, hpos, hsum, by omega, (h.buffer htr hb).2⟩

/-- Settles O50: the step is RD2's, which writes one byte; the read phase says which. -/
theorem masterWritesOnlyReadData : Obligations.MasterWritesOnlyReadData := by
  intro s t a h hm hne
  obtain ⟨hf, he⟩ := fsm_of_masterStep_mem hm fun hmem => hne (by rw [hmem])
  obtain ⟨hb, hread, hpos, hsum, hrem, -⟩ := h.read_buffer hf rfl rfl
  obtain ⟨-, -, ht⟩ := bufWrite_next.1 he
  cases ht
  simp only [settle_mem, goto_mem, memGet_memPut _ _ _ h.memory.1] at hne ⊢
  by_cases ha : a = s.argBuf + s.idx
  · exact ⟨hf, hb, hread, ha, by omega, by omega, if_pos ha⟩
  · exact absurd (if_neg ha) hne

/-- Settles O51: REM counts the bytes from IDX to the buffer's end, so RD4's test REM = 1 finds the last one. -/
theorem lastReadByteIsNacked : Obligations.LastReadByteIsNacked := by
  intro s h hf
  obtain ⟨-, -, -, hsum, -, -⟩ := h.read_buffer (c := Micro.RD4) hf rfl rfl
  rw [masterStep_of_micro (i := .rd4) hf (by decide) rfl]
  by_cases hlast : s.rem = 1
  · rw [exec_rd4_of_last hlast]
    exact ⟨_, rfl, fun _ => ⟨rfl, rfl⟩, fun hne => absurd hsum (by omega)⟩
  · rw [exec_rd4_of_not_last hlast]
    exact ⟨_, rfl, fun heq => absurd hsum (by omega), fun _ => ⟨rfl, rfl⟩⟩

end Sys2Proof.Safety

/-! ### The TRACE of one bit -/

namespace Sys2Proof.Safety

open Sys2Proof.Machine

/-- The level XF3 samples depends on SDA's latches, on DR and on the answers alone. -/
theorem sampled_congr {s t : State} (hsda : sdaPull t = sdaPull s) (hscl : t.envScl = s.envScl)
    (henv : t.envSda = s.envSda) (hdraws : t.draws = s.draws) : sampled t = sampled s := by
  simp only [sampled, hsda, nextSda, ← takeScl_eq, takeScl_envSda, takeScl_draws, hscl, henv, hdraws]

/-- A step that moves SCL leaves an `Out` (40_line_primitives R117). -/
theorem settle_of_scl_moves {s t : State} (hmove : sclPull s ≠ sclPull t) :
    settle s t = { t with trace := t.trace ++ [.out (!sclPull t) (!sdaPull t)] } := by
  have hne : releases s ≠ releases t := fun heq => hmove (by simpa [releases] using congrArg Prod.fst heq)
  rw [settle, outEvents, if_neg hne]

/-- One step of the micro-state in STATE, while nothing comes from outside. -/
theorem step_of_micro {s : State} {c : MicroCode} {i : Instr} (hf : s.fsm = c) (hc : c ≠ Micro.IDLE)
    (hd : decodeMicro c = .ok i) (harr : s.arrivals = []) : step s = exec i s :=
  (step_of_no_event harr).trans (masterStep_of_micro hf hc hd)

/-- XF2 with SCL pulled low releases it, and changes no input of the sample (42_bit_byte_transfer R143). -/
theorem exec_xf2_trace {s : State} (hddr : s.ddrScl = true) (hport : s.portScl = false) :
    ∃ t, exec .xf2 s = .next t ∧
      t.fsm = Micro.XF3 ∧ t.arrivals = s.arrivals ∧ t.ddrScl = true ∧ t.portScl = true ∧
      nextScl t = nextScl s ∧ sampled t = sampled s ∧ t.trace = s.trace ++ [.out true (!sdaPull s)] := by
  have hscl : sclPull (goto Micro.XF3 (strobe s)) = false := by simp [sclPull, hport]
  have hsda : sdaPull (goto Micro.XF3 (strobe s)) = sdaPull s := rfl
  have hmove : sclPull s ≠ sclPull (goto Micro.XF3 (strobe s)) := by simp [sclPull, hddr, hport]
  refine ⟨settle s (goto Micro.XF3 (strobe s)), rfl, rfl, rfl, hddr, by simp [hport], rfl,
    sampled_congr hsda rfl rfl rfl, ?_⟩
  rw [settle_of_scl_moves hmove, hscl, hsda]
  rfl

/-- XF3 reads SCL high and samples SDA in the same step (42_bit_byte_transfer R144). -/
theorem exec_xf3_trace {s : State} (hport : s.portScl = true) (hhigh : nextScl s = true) :
    ∃ t, exec .xf3 s = .next t ∧
      t.fsm = Micro.XF4 ∧ t.arrivals = s.arrivals ∧ t.ddrScl = s.ddrScl ∧ t.portScl = true ∧
      t.trace = s.trace ++ [.sclHigh, .sample (sampled s)] := by
  refine ⟨_, (xf3SamplesWithHighClock s).1 ⟨by simp [sclPull, hport], hhigh⟩, rfl, ?_, ?_, ?_, rfl⟩ <;>
    simp only [← takeScl_eq, ← takeSda_eq, takeSda_arrivals, takeScl_arrivals, takeSda_ddrScl, takeScl_ddrScl,
      takeSda_portScl, takeScl_portScl, hport]

/-- XF5 with SCL released pulls it (42_bit_byte_transfer R146). -/
theorem exec_xf5_trace {s : State} (hddr : s.ddrScl = true) (hport : s.portScl = true) :
    ∃ t, exec .xf5 s = .next t ∧ t.fsm = Micro.XF6 ∧ t.arrivals = s.arrivals ∧ t.portScl = false ∧
      t.trace = s.trace ++ [.out false (!sdaPull t)] := by
  have hscl : sclPull (goto Micro.XF6 (shift s.sbit (strobe s))) = true := by
    simp [sclPull, shift_strobe_eq, hddr, hport]
  have hmove : sclPull s ≠ sclPull (goto Micro.XF6 (shift s.sbit (strobe s))) := by
    rw [hscl]
    simp [sclPull, hport]
  refine ⟨settle s (goto Micro.XF6 (shift s.sbit (strobe s))), rfl, rfl, rfl, by simp [shift_strobe_eq, hport], ?_⟩
  rw [sdaPull_settle, settle_of_scl_moves hmove, hscl]
  rfl

/-- Settles O53: of the six steps XF2, XF3 and XF5 write TRACE; the delays and XF6 change STATE alone. -/
theorem oneBitTrace : Obligations.OneBitTrace := by
  intro s hf harr hddr hport hhigh
  have h1 : step s = .next { s with fsm := Micro.XF2 } :=
    (step_of_micro hf (by decide) rfl harr).trans (finish_of_same rfl rfl)
  obtain ⟨s2, he2, hf2, harr2, hddr2, hport2, hnext2, hsample2, htrace2⟩ :=
    exec_xf2_trace (s := { s with fsm := Micro.XF2 }) hddr hport
  have h2 := (step_of_micro (s := { s with fsm := Micro.XF2 }) (c := Micro.XF2) rfl (by decide) rfl harr).trans he2
  obtain ⟨s3, he3, hf3, harr3, hddr3, hport3, htrace3⟩ := exec_xf3_trace hport2 (hnext2.trans hhigh)
  have h3 := (step_of_micro hf2 (by decide) rfl (harr2.trans harr)).trans he3
  have harrAt3 : s3.arrivals = [] := harr3.trans (harr2.trans harr)
  have h4 : step s3 = .next { s3 with fsm := Micro.XF5 } :=
    (step_of_micro hf3 (by decide) rfl harrAt3).trans (finish_of_same rfl rfl)
  obtain ⟨s5, he5, hf5, harr5, hport5, htrace5⟩ :=
    exec_xf5_trace (s := { s3 with fsm := Micro.XF5 }) (hddr3.trans hddr2) hport3
  have h5 := (step_of_micro (s := { s3 with fsm := Micro.XF5 }) (c := Micro.XF5) rfl (by decide) rfl harrAt3).trans he5
  have h6 := (step_of_micro hf5 (by decide) rfl (harr5.trans harrAt3)).trans (xf6TestsDoneFlag s5)
  have hsample : sampled { s with fsm := Micro.XF2 } = sampled s := sampled_congr rfl rfl rfl rfl
  refine ⟨_, (runs_succ_of_next h1).trans <| (runs_succ_of_next h2).trans <| (runs_succ_of_next h3).trans <|
    (runs_succ_of_next h4).trans <| (runs_succ_of_next h5).trans (runs_succ_of_next h6), rfl, hport5, ?_⟩
  calc s5.trace = s3.trace ++ [.out false (!sdaPull s5)] := htrace5
    _ = s.trace ++ [.out true (!sdaPull s), .sclHigh, .sample (sampled s), .out false (!sdaPull s5)] := by
      rw [htrace3, htrace2, hsample2, hsample]
      simp only [List.append_assoc, List.cons_append, List.nil_append]
      rfl

end Sys2Proof.Safety

/-! ### The grammar of BUSLOG along a step (43_transfer_fsm R204) -/

namespace Sys2Proof.Safety

open Sys2Proof.Machine

/-! The phase a place of a transfer asks for. -/

/-- `expectedPhase` at the site `c`, as a function of the transfer registers it looks at. -/
def phaseAt (c : MicroCode) (phase : BitVec 2) (idx rem : Nat) : BusPhase :=
  if c.toNat ≤ 0x0B ∨ c ∈ [Micro.SP6, Micro.SP7] then .outside
  else if c.toNat ≤ 0x0E then .started
  else if c ∈ [Micro.NK0, Micro.NK1, Micro.NK2] then .nacked
  else if c ∈ [Micro.WR6] then phaseAfter phase (idx + 1)
  else if c = Micro.LP ∨ c = Micro.RD5 then
    (if phase = Phase.READ ∧ 1 ≤ idx ∧ rem = 1 then .received else phaseAfter phase (idx + 1))
  else if stopping c = true then
    (if phase = Phase.READ ∧ 2 ≤ idx then .received else phaseAfter phase idx)
  else phaseAfter phase idx

theorem expectedPhase_eq (s : State) : expectedPhase s = phaseAt (site s) s.phase s.idx s.rem := rfl

theorem expectedPhase_of_fsm {s : State} {c : MicroCode} (hf : s.fsm = c) (hx : inXfer c = false) :
    expectedPhase s = phaseAt c s.phase s.idx s.rem := by
  rw [expectedPhase_eq, site_of_fsm hf hx]

theorem phaseAt_lp (phase : BitVec 2) (idx rem : Nat) : phaseAt Micro.LP phase idx rem =
    if phase = Phase.READ ∧ 1 ≤ idx ∧ rem = 1 then .received else phaseAfter phase (idx + 1) := rfl

theorem phaseAt_sp5 (phase : BitVec 2) (idx rem : Nat) : phaseAt Micro.SP5 phase idx rem =
    if phase = Phase.READ ∧ 2 ≤ idx then .received else phaseAfter phase idx := rfl

/-- A byte sent: the address byte, or a data byte of a write (43_transfer_fsm R203). -/
theorem phaseAfter_tx {phase : BitVec 2} {n : Nat} (b : Byte) (nack : Bool) (h : n = 0 ∨ phase = Phase.WRITE) :
    (phaseAfter phase n).next (.tx b nack) = if nack then .nacked else phaseAfter phase (n + 1) := by
  rcases n with _ | _ | n
  · rfl
  · obtain rfl := h.resolve_left (by omega)
    rfl
  · obtain rfl := h.resolve_left (by omega)
    rfl

/-- A byte received comes after the address byte of a read. -/
theorem phaseAfter_rx {n : Nat} (b : Byte) (nack : Bool) (hn : 1 ≤ n) :
    (phaseAfter Phase.READ n).next (.rx b nack) = if nack then .received else phaseAfter Phase.READ (n + 1) := by
  rcases n with _ | _ | n
  · omega
  · rfl
  · rfl

/-- A stop comes after the address byte, after the bytes of a write, or after the last byte of a read. -/
theorem phaseAt_sp5_stop {phase : BitVec 2} {n : Nat} (rem : Nat) (hn : 1 ≤ n) :
    (phaseAt Micro.SP5 phase n rem).next .stop = .outside := by
  rw [phaseAt_sp5]
  rcases n with _ | _ | n
  · omega
  · rw [if_neg (by omega)]
    rfl
  · by_cases hread : phase = Phase.READ
    · rw [if_pos ⟨hread, by omega⟩]
      rfl
    · have hwritten : phaseAfter phase (n + 2) = .written := if_neg hread
      rw [if_neg fun h => hread h.1, hwritten]
      rfl

/-! Where BUSLOG is legal, and what a step does to it. -/

/-- A step that logs `events`, which lead from the phase of its place to the phase of the next. -/
theorem BusLegal.of_events {before : List BusEvent} {s t : State} (events : List BusEvent) (h : BusLegal before s)
    (hlog : t.buslog = s.buslog ++ events)
    (hphase : events.foldl BusPhase.next (expectedPhase s) = expectedPhase t) : BusLegal before t := by
  obtain ⟨log, hbuslog, hlegal⟩ := h
  refine ⟨log ++ events, by rw [hlog, hbuslog, List.append_assoc], ?_⟩
  rw [busPhase, List.foldl_append, ← hphase, ← hlegal, busPhase]

theorem BusLegal.of_quiet {before : List BusEvent} {s t : State} (h : BusLegal before s) (hlog : t.buslog = s.buslog)
    (hphase : expectedPhase s = expectedPhase t) : BusLegal before t :=
  h.of_events [] (by rw [hlog, List.append_nil]) hphase

/-- A micro-state that logs nothing and keeps the transfer registers goes to a site with the same phase. -/
theorem TransferInv.phaseAt_nextSites {i : Instr} {c k : MicroCode} {s : State} (h : TransferInv c s)
    (hcode : encode i = .micro c) (hx : inXfer c = false)
    (hi : i ∉ [Instr.idle, .st3, .wr5, .nk2, .rd4, .sp5, .tr0, .bd, .lp]) (hk : k ∈ nextSites i) :
    phaseAt c s.phase s.idx s.rem = phaseAt k s.phase s.idx s.rem := by
  cases i with
  | init | transfer | writeByte => cases hcode
  | idle | st3 | wr5 | nk2 | rd4 | sp5 | tr0 | bd | lp => exact absurd hi (by decide)
  | xf0 | xf1 | xf2 | xf3 | xf4 | xf5 | xf6 | xf7 | xf8 =>
    cases hcode
    exact absurd hx (by decide)
  | st6 =>
    cases hcode
    obtain rfl := List.mem_singleton.1 hk
    rw [(h.first rfl (by decide)).2]
    rfl
  | wr6 =>
    cases hcode
    obtain rfl := List.mem_singleton.1 hk
    have hsent : ¬ (s.phase = Phase.READ ∧ 1 ≤ s.idx ∧ s.rem = 1) := by
      rintro ⟨hread, hidx, -⟩
      rcases h.writes rfl with h0 | hwrite
      · omega
      · simp [hwrite] at hread
    exact (if_neg hsent).symm
  | _ =>
    cases hcode
    revert k
    simp [nextSites, xferCall, successors, phaseAt, stopping]

/-! The instructions that log, or move the phase. -/

/-- BD finds ADDRESS on its first visit only (43_transfer_fsm R169). -/
theorem Inv.idx_of_bd_address {s : State} (h : Inv s) (hf : s.fsm = Micro.BD) (haddr : s.phase = Phase.ADDRESS) :
    s.idx = 0 := by
  rcases h.dispatch hf with hfirst | ⟨hdir, -⟩
  · exact hfirst.2
  · rcases directionPhase_cases (addressByte s) with ⟨-, hd⟩ | ⟨-, hd⟩ <;> simp [haddr, hd] at hdir

/-- BD leaves the phase as it was: on its first visit no byte has been sent in either direction. -/
theorem Inv.busLegal_bd {before : List BusEvent} {s t : State} (h : Inv s) (hf : s.fsm = Micro.BD)
    (hlegal : BusLegal before s) (he : exec .bd s = .next t) : BusLegal before t := by
  rcases execBd_next he with ⟨haddr, b, -, rfl⟩ | ⟨-, rfl⟩ | ⟨-, rfl⟩ <;> refine hlegal.of_quiet rfl ?_ <;>
    rw [expectedPhase_of_fsm hf rfl, expectedPhase_of_fsm (settle_fsm _ _) rfl]
  · simp only [settle_idx, goto_idx, h.idx_of_bd_address hf haddr]
    rfl
  · rfl
  · rfl

/-- WR5 logs the byte sent with the slave's bit (43_transfer_fsm R175). -/
theorem Inv.busLegal_wr5 {before : List BusEvent} {s t : State} (h : Inv s) (hf : s.fsm = Micro.WR5)
    (hlegal : BusLegal before s) (he : exec .wr5 s = .next t) : BusLegal before t := by
  obtain ⟨b, hread, -⟩ := onAccess_next.1 he
  rw [exec_wr5_of_bufRead hread] at he
  cases he
  have hsent := phaseAfter_tx (phase := s.phase) b (s.xret.getLsbD 0) (h.writes (by rw [site_of_fsm hf rfl]; rfl))
  refine hlegal.of_events [.tx b (s.xret.getLsbD 0)] rfl ?_
  rw [expectedPhase_of_fsm hf rfl]
  refine hsent.trans ?_
  cases s.xret.getLsbD 0 <;> rfl

/-- RD4 logs the byte received with the master's bit (43_transfer_fsm R184). -/
theorem Inv.busLegal_rd4 {before : List BusEvent} {s t : State} (h : Inv s) (hf : s.fsm = Micro.RD4)
    (hlegal : BusLegal before s) (he : exec .rd4 s = .next t) : BusLegal before t := by
  obtain ⟨-, hread, hpos, -⟩ := h.read_buffer hf rfl rfl
  have hphase : ∀ nack, (expectedPhase s).next (.rx s.xret nack) =
      if nack then .received else phaseAfter Phase.READ (s.idx + 1) := fun nack => by
    rw [expectedPhase_of_fsm hf rfl, hread]
    exact phaseAfter_rx s.xret nack hpos
  by_cases hlast : s.rem = 1
  · rw [exec_rd4_of_last hlast] at he
    cases he
    refine hlegal.of_events [.rx s.xret true] rfl ((hphase true).trans ?_)
    exact (if_pos ⟨hread, hpos, hlast⟩).symm
  · rw [exec_rd4_of_not_last hlast] at he
    cases he
    refine hlegal.of_events [.rx s.xret false] rfl ((hphase false).trans ?_)
    rw [← hread]
    exact (if_neg fun hrd => hlast hrd.2.2).symm

/-- Under the invariant LP stays in the range of its rule (43_transfer_fsm R186). -/
theorem Inv.exec_lp_next {s : State} (h : Inv s) (hf : s.fsm = Micro.LP) :
    exec .lp s = .next { s with
      rem := s.rem - 1, idx := s.idx + 1, fsm := if s.rem = 1 then Micro.SP0 else Micro.BD } := by
  obtain ⟨hsum, hrem⟩ := h.count (by rw [hf]; rfl)
  have hpos : s.rem ≠ 0 := fun h0 => by simpa [site_of_fsm hf rfl, stopping] using hrem.1 h0
  obtain ⟨-, -, hremw, -⟩ := h.widths
  have hlen := h.transferLength_lt
  exact lpCountsByte.1 s (by omega) hremw (by omega)

/-- LP leaves the phase as it was, whether it loops or goes to the stop condition (43_transfer_fsm R186). -/
theorem Inv.busLegal_lp {before : List BusEvent} {s t : State} (h : Inv s) (hf : s.fsm = Micro.LP)
    (hlegal : BusLegal before s) (he : exec .lp s = .next t) : BusLegal before t := by
  rw [h.exec_lp_next hf] at he
  cases he
  refine hlegal.of_quiet rfl ?_
  rw [expectedPhase_of_fsm hf rfl]
  by_cases hlast : s.rem = 1
  · have hreceived : (s.phase = Phase.READ ∧ 1 ≤ s.idx ∧ s.rem = 1) ↔ (s.phase = Phase.READ ∧ 2 ≤ s.idx + 1) := by
      simp [hlast]
    rw [expectedPhase_of_fsm (c := Micro.SP0) (if_pos hlast) rfl, phaseAt_lp, if_congr hreceived rfl rfl]
    rfl
  · have hmore : ¬ (s.phase = Phase.READ ∧ 1 ≤ s.idx ∧ s.rem = 1) := fun hrd => hlast hrd.2.2
    rw [expectedPhase_of_fsm (c := Micro.BD) (if_neg hlast) rfl, phaseAt_lp, if_neg hmore]
    rfl

/-- SP5 logs the stop condition (43_transfer_fsm R192). -/
theorem Inv.busLegal_sp5 {before : List BusEvent} {s t : State} (h : Inv s) (hf : s.fsm = Micro.SP5)
    (hlegal : BusLegal before s) (he : exec .sp5 s = .next t) : BusLegal before t := by
  have hset : setUp s.fsm = true := by rw [hf]; rfl
  obtain ⟨hsum, hrem⟩ := h.count hset
  have hstop : s.rem = 0 := hrem.2 (by rw [site_of_fsm hf rfl]; rfl)
  have hlen := h.transferInv.length_pos ((setUp_site h.call).2 ▸ transferring_of_setUp hset)
  cases he
  refine hlegal.of_events [.stop] rfl ?_
  rw [expectedPhase_of_fsm hf rfl, expectedPhase_of_fsm (settle_fsm _ _) rfl]
  exact phaseAt_sp5_stop s.rem (by omega)

/-- The other instructions log nothing (10_state R44). -/
theorem exec_buslog {i : Instr} {s t : State} (he : exec i s = .next t)
    (hi : i ∉ [Instr.st3, .wr5, .nk2, .rd4, .sp5]) : t.buslog = s.buslog := by
  obtain ⟨-, -, -, -, -, -, -, -, -, -, -, -, -, -, -, -, -, -, -, -, hlog, -⟩ :=
    registersWrittenOnlyByTheirWriters i s t he
  exact by_contra fun hne => hi (hlog hne)

/-- An instruction that logs nothing and keeps the transfer registers needs only a next place with the same phase. -/
theorem BusLegal.of_frame {before : List BusEvent} {i : Instr} {s t : State} (h : BusLegal before s)
    (he : exec i s = .next t) (hi : i ∉ [Instr.idle, .st3, .wr5, .nk2, .rd4, .sp5, .tr0, .bd, .lp])
    (hphase : expectedPhase s = phaseAt (site t) s.phase s.idx s.rem) : BusLegal before t := by
  have hframe := exec_frame he
  have hlen : i ∉ [Instr.tr0, .lp] := notMem_of_subset (by decide) hi
  refine h.of_quiet (exec_buslog he (notMem_of_subset (by decide) hi)) ?_
  rw [hphase, expectedPhase_eq, hframe.phase (notMem_of_subset (by decide) hi), hframe.rem hlen, hframe.idx hlen]

/-- Outside XFER, one case for each instruction that logs or moves a transfer register; the others keep the phase. -/
theorem Inv.busLegal_of_not_inXfer {before : List BusEvent} {i : Instr} {s t : State} (h : Inv s)
    (hi : encode i = .micro s.fsm) (hx : inXfer s.fsm = false) (hne : i ≠ .idle) (hlegal : BusLegal before s)
    (he : exec i s = .next t) : BusLegal before t := by
  by_cases hw : i ∈ [Instr.st3, .wr5, .nk2, .rd4, .sp5, .tr0, .bd, .lp]
  · simp only [List.mem_cons, List.not_mem_nil, or_false] at hw
    rcases hw with rfl | rfl | rfl | rfl | rfl | rfl | rfl | rfl <;> injection hi with hf
    · cases he
      refine hlegal.of_events [.start] rfl ?_
      rw [expectedPhase_of_fsm hf.symm rfl, expectedPhase_of_fsm (settle_fsm _ _) rfl]
      rfl
    · exact h.busLegal_wr5 hf.symm hlegal he
    · cases he
      refine hlegal.of_events [.abort] rfl ?_
      rw [expectedPhase_of_fsm hf.symm rfl, expectedPhase_of_fsm (settle_fsm _ _) rfl]
      rfl
    · exact h.busLegal_rd4 hf.symm hlegal he
    · exact h.busLegal_sp5 hf.symm hlegal he
    · cases he
      refine hlegal.of_quiet rfl ?_
      rw [expectedPhase_of_fsm hf.symm rfl, expectedPhase_of_fsm (settle_fsm _ _) rfl]
      rfl
    · exact h.busLegal_bd hf.symm hlegal he
    · exact h.busLegal_lp hf.symm hlegal he
  · have hi' : i ∉ [Instr.idle, .st3, .wr5, .nk2, .rd4, .sp5, .tr0, .bd, .lp] := fun hmem =>
      (List.mem_cons.1 hmem).elim hne hw
    have hT := site_of_fsm rfl hx ▸ h.transferInv
    refine hlegal.of_frame he hi' ?_
    rw [expectedPhase_of_fsm rfl hx]
    exact hT.phaseAt_nextSites hi hx hi' (exec_site_mem_nextSites hi hx he)

theorem Inv.busLegal_of_exec_micro {before : List BusEvent} {i : Instr} {s t : State} (h : Inv s)
    (hi : encode i = .micro s.fsm) (hne : i ≠ .idle) (hlegal : BusLegal before s) (he : exec i s = .next t) :
    BusLegal before t := by
  cases hx : inXfer s.fsm with
  | false => exact h.busLegal_of_not_inXfer hi hx hne hlegal he
  | true =>
    refine hlegal.of_frame he (notMem_of_disjoint (by decide) ((inXfer_iff hi).1 hx)) ?_
    rw [h.exec_site_of_inXfer hi hx he, expectedPhase_eq]

/-- IDLE's step, with a command or without, goes from outside a transaction to outside one (41_initializer R130). -/
theorem busLegal_of_decode {before : List BusEvent} {i : Instr} {s t : State} (hf : s.fsm = Micro.IDLE)
    (hi : i ∈ [Instr.idle, .init, .transfer, .writeByte]) (hlegal : BusLegal before s) (he : exec i s = .next t) :
    BusLegal before t := by
  have hlog := exec_buslog he (notMem_of_disjoint (by decide) hi)
  obtain ⟨u, k, rfl, hk, -⟩ := exec_decode_next hi he
  have hout : ∀ c ∈ [Micro.IDLE, Micro.IN0, Micro.TR0, Micro.WB0], inXfer c = false ∧ c.toNat ≤ 0x0B := by decide
  obtain ⟨hx, hle⟩ := hout k hk
  refine hlegal.of_quiet hlog ?_
  rw [expectedPhase_of_fsm hf rfl, expectedPhase_of_fsm (settle_fsm _ _) hx]
  exact (if_pos (.inl hle)).symm

theorem Inv.busLegal_of_masterStep {before : List BusEvent} {s t : State} (h : Inv s) (hlegal : BusLegal before s)
    (hm : masterStep s = .next t) : BusLegal before t := by
  obtain ⟨i, hfetch, he⟩ := Machine.masterStep_next hm
  rcases fetch_ok hfetch with ⟨hf, -, rfl⟩ | ⟨hf, c, -, hd⟩ | ⟨hf, hd⟩
  · exact busLegal_of_decode hf (by decide) hlegal he
  · refine busLegal_of_decode hf ?_ hlegal he
    rcases decodeCmd_cases hd with rfl | rfl | rfl <;> decide
  · have hi := encode_of_decodeMicro hd
    refine h.busLegal_of_exec_micro hi ?_ hlegal he
    rintro rfl
    injection hi with hcode
    exact hf hcode.symm

/-- An event other than a reset touches neither BUSLOG nor the place of the master. -/
theorem busLegal_of_perform {before : List BusEvent} {s t : State} {e : Event} (he : e ≠ .reset)
    (hlegal : BusLegal before s) (hp : perform s e = .next t) : BusLegal before t := by
  rcases perform_next hp with ⟨o, v, -, hw⟩ | ⟨r, rfl⟩ | ⟨a, v, -, -, rfl⟩ | ⟨hreset, -⟩
  · obtain ⟨-, hcases⟩ := hostWrite_next hw
    rcases hcases with ⟨-, -, rfl⟩ | ⟨-, -, rfl⟩ | ⟨-, -, rfl⟩ | ⟨-, -, rfl⟩ | ⟨-, -, rfl⟩ <;> exact hlegal
  · exact hlegal
  · exact hlegal
  · exact absurd hreset he

/-- Settles O49: an event leaves the log and its phase alone, a master step moves both together, and a reset starts
outside a transaction. -/
theorem busLogKeepsGrammar : Obligations.BusLogKeepsGrammar := by
  refine ⟨fun p => ⟨[], rfl, rfl⟩, fun before s t h hlegal hstep hreset => ?_, fun s t u hdue hstep => ?_⟩
  · rcases step_cases s with ⟨e, u, hdue, heq⟩ | ⟨-, heq⟩
    · have he : e ≠ .reset := fun h0 => hreset u (h0 ▸ hdue)
      obtain ⟨-, rest, -, rfl⟩ := dueEvent_some hdue
      have hu : BusLegal before { s with arrivals := rest } := hlegal
      exact busLegal_of_perform he hu (heq ▸ hstep)
    · have hu : Inv (tick s) := tick_eq s ▸ h.of_same_registers rfl
      have hlegal' : BusLegal before (tick s) := tick_eq s ▸ hlegal
      exact hu.busLegal_of_masterStep hlegal' (heq ▸ hstep)
  · rw [step, hdue] at hstep
    cases hstep
    exact ⟨[], (List.append_nil _).symm, rfl⟩

end Sys2Proof.Safety

/-! ### The parts of a transfer as runs -/

namespace Sys2Proof.Safety

open Sys2Proof.Machine

/-- A run from a state whose micro-state is known, and to which nothing comes from outside. -/
theorem RunsTo.of_micro {n : Nat} {s t : State} {c : MicroCode} (hf : s.fsm = c) (harr : s.arrivals = [])
    (hrun : RunsTo n { s with fsm := c, arrivals := [] } t) : RunsTo n s t := by
  have hs : { s with fsm := c, arrivals := [] } = s := by rw [← hf, ← harr]
  rwa [hs] at hrun

/-! The straight parts: each micro-state goes to the next whatever the environment answers, so the run computes, TRACE
apart. -/

/-- A decode that accepts TRANSFER (43_transfer_fsm R160). -/
theorem runsTo_decode {s : State} (h : transferIssued s) :
    RunsTo 1 s { s with fsm := Micro.TR0, cmd := none, busy := true, bufsel := false } := by
  obtain ⟨hf, hcmd, hdone, harr, hlen, hfit⟩ := h
  intro tr
  have hfetch : fetch { s with trace := tr } = .ok .transfer := fetch_of_command hf hcmd rfl
  have hstep : step { s with trace := tr } = exec .transfer { s with trace := tr } :=
    (step_of_no_event (s := { s with trace := tr }) harr).trans (masterStep_of_fetch_ok hfetch)
  exact ⟨_, runs_succ_of_next
    (hstep.trans (exec_transfer_of_checks (s := { s with trace := tr }) hdone hlen hfit))⟩

/-- TR0 and ST0: the transfer registers, and SCL driven high (43_transfer_fsm R161, R162). -/
theorem runsTo_setUp {s : State} (hf : s.fsm = Micro.TR0) (harr : s.arrivals = []) :
    RunsTo 2 s { s with
      arrivals := [], fsm := Micro.ST1, rem := transferLength s, idx := 0, phase := Phase.ADDRESS
      ddrScl := true, portScl := true } := by
  cases s
  exact .of_micro hf harr fun _ => ⟨_, rfl⟩

/-- ST2 to ST6: the start condition (43_transfer_fsm R164 to R168). -/
theorem runsTo_startCondition {s : State} (hf : s.fsm = Micro.ST2) (harr : s.arrivals = []) :
    RunsTo 5 s { s with
      arrivals := [], fsm := Micro.BD, ddrScl := true, portScl := false, ddrSda := true, portSda := true
      buslog := s.buslog ++ [.start] } := by
  cases s
  exact .of_micro hf harr fun _ => ⟨_, rfl⟩

/-- NK0 to NK2: the abort (43_transfer_fsm R177 to R179). -/
theorem runsTo_abort {s : State} (hf : s.fsm = Micro.NK0) (harr : s.arrivals = []) :
    RunsTo 3 s { s with
      arrivals := [], fsm := Micro.IDLE, portScl := true, portSda := true, result := false, busy := false
      buslog := s.buslog ++ [.abort] } := by
  cases s
  exact .of_micro hf harr fun _ => ⟨_, rfl⟩

/-- SP0 to SP2: SDA low, SCL to input (43_transfer_fsm R187 to R189). -/
theorem runsTo_stopSetUp {s : State} (hf : s.fsm = Micro.SP0) (harr : s.arrivals = []) :
    RunsTo 3 s { s with arrivals := [], fsm := Micro.SP3, ddrScl := false, ddrSda := true, portSda := false } := by
  cases s
  exact .of_micro hf harr fun _ => ⟨_, rfl⟩

/-- SP4 and SP5: the stop condition (43_transfer_fsm R191, R192). -/
theorem runsTo_stopCondition {s : State} (hf : s.fsm = Micro.SP4) (harr : s.arrivals = []) :
    RunsTo 2 s { s with arrivals := [], fsm := Micro.SP6, ddrSda := false, buslog := s.buslog ++ [.stop] } := by
  cases s
  exact .of_micro hf harr fun _ => ⟨_, rfl⟩

/-! The waits and the calls of XFER, with an environment that does not stretch the clock. -/

/-- A wait ends with the first poll when SCL is released and the answer is high (40_line_primitives R108). -/
theorem runsTo_sclHigh {s : State} {i : Instr} {c k : MicroCode} {scl : List Bool}
    (hi : (i = .st1 ∧ c = Micro.ST1 ∧ k = Micro.ST2) ∨ (i = .sp3 ∧ c = Micro.SP3 ∧ k = Micro.SP4) ∨
      (i = .sp6 ∧ c = Micro.SP6 ∧ k = Micro.SP7))
    (hf : s.fsm = c) (harr : s.arrivals = []) (hpull : sclPull s = false) (hscl : s.envScl = true :: scl) :
    RunsTo 1 s { s with fsm := k, envScl := scl } := by
  have hcode : c ≠ Micro.IDLE ∧ decodeMicro c = .ok i := by
    rcases hi with ⟨rfl, rfl, rfl⟩ | ⟨rfl, rfl, rfl⟩ | ⟨rfl, rfl, rfl⟩ <;> exact ⟨by decide, rfl⟩
  refine .of_exec hf hcode.1 hcode.2 harr fun tr => ?_
  rw [(clockWaitsPoll i c k hi { s with trace := tr }).1 ⟨hpull, nextScl_of_cons hscl⟩,
    afterSclDraw_of_cons (s := { s with trace := tr }) hscl]
  exact ⟨_, rfl⟩

/-- The state in which a call of XFER for `n` bits returns `x` to `k`. -/
def afterCall (s : State) (k : MicroCode) (n : BitVec 4) (x : Byte) (scl sda : List Bool) : State :=
  { s with
    fsm := k, xcont := k, xn := n, portScl := false, cnt := 0, oif := true, sif := false, pf := false, cr := 0x2A
    dr := x, xret := x, sbit := x.getLsbD 0, envScl := scl, envSda := sda }

theorem stretched_replicate_zero (n : Nat) : stretched (List.replicate n 0) = List.replicate n true := by
  induction n with
  | zero => rfl
  | succ n ih =>
    have hcons := stretched_cons 0 (List.replicate n 0) []
    simp only [List.append_nil] at hcons
    rw [List.replicate_succ, hcons, ih]
    rfl

/-- A call of XFER, from the micro-state that makes it to the one it returns to (42_bit_byte_transfer R140, R150). -/
theorem runsTo_call {s : State} {i : Instr} {c k : MicroCode} {bits scl sda : List Bool}
    (hi : xferCall i = some (k, BitVec.ofNat 4 bits.length)) (hd : decodeMicro c = .ok i)
    (hn : bits.length = 8 ∨ bits.length = 1) (hf : s.fsm = c) (harr : s.arrivals = []) (hport : s.portScl = false)
    (hscl : s.envScl = List.replicate bits.length true ++ scl) (hsda : s.envSda = bits ++ sda) :
    RunsTo (4 + 6 * bits.length) s (afterCall s k (BitVec.ofNat 4 bits.length) (received s bits) scl sda) := by
  have hc : c ≠ Micro.IDLE := by
    rintro rfl
    cases hd
    cases hi
  have hcall : RunsTo 1 s { s with fsm := Micro.XF0, xcont := k, xn := BitVec.ofNat 4 bits.length } :=
    .of_exec hf hc hd harr fun tr => ⟨_, exec_of_xferCall { s with trace := tr } hi⟩
  rw [← stretched_replicate_zero] at hscl
  have hxfer := runsTo_xfer (s := { s with fsm := Micro.XF0, xcont := k, xn := BitVec.ofNat 4 bits.length })
    hn rfl rfl harr hport List.length_replicate hscl hsda
  have hrun := hcall.trans hxfer
  rw [show 1 + (1 + (6 * bits.length + (List.replicate bits.length 0).sum) + (1 + 1)) = 4 + 6 * bits.length by
    simp; omega] at hrun
  exact hrun

/-! What XFER returns where SDA is an input (42_bit_byte_transfer R150). -/

theorem masterReleases_of_input {s : State} (h : s.ddrSda = false) (b : Bool) : masterReleases s b = true := by
  simp [masterReleases, h]

/-- The slave's bit (43_transfer_fsm R174). -/
theorem received_bit_of_input {s : State} (h : s.ddrSda = false) (b : Bool) : (received s [b]).getLsbD 0 = b :=
  (receiveBit_bit_zero s s.dr b).trans (by rw [masterReleases_of_input h, Bool.true_and])

/-- The slave's byte, most significant bit first (20_memory R56). -/
theorem received_byte_of_input {s : State} (h : s.ddrSda = false) (d : Byte) : received s (wireBits d) = d := by
  have hlen : (wireBits d).length = 8 := rfl
  refine BitVec.eq_of_getLsbD_eq fun j hj => ?_
  have hbit : (wireBits d).getD (8 - 1 - j) false = d.getLsbD j := by
    have hj' : 7 - (7 - j) = j := by omega
    have hlt : 7 - j < 8 := by omega
    simp [wireBits, List.getD_eq_getElem?_getD, hlt, hj']
  rw [received, foldl_receiveBit_getLsbD s (wireBits d) s.dr (by rw [hlen]) hj, hlen, if_pos hj,
    masterReleases_of_input h, Bool.true_and, hbit]

/-! The parts that look at the transfer registers. -/

/-- LP within its range (43_transfer_fsm R186). -/
theorem runsTo_lp {s : State} (hf : s.fsm = Micro.LP) (harr : s.arrivals = []) (hpos : 1 ≤ s.rem)
    (hrem : s.rem < 2 ^ s.params.lenBits) (hidx : s.idx + 1 < 2 ^ s.params.lenBits) :
    RunsTo 1 s { s with
      rem := s.rem - 1, idx := s.idx + 1, fsm := if s.rem = 1 then Micro.SP0 else Micro.BD } :=
  .of_exec hf (by decide) rfl harr fun tr => ⟨tr, lpCountsByte.1 { s with trace := tr } hpos hrem hidx⟩

/-- WR0 to WR5's entry: byte IDX goes over the wire and the slave's bit comes back (43_transfer_fsm R170 to R174). -/
theorem runsTo_sendByte {s : State} {w scl sda : List Bool} {nack : Bool} (hf : s.fsm = Micro.WR0)
    (harr : s.arrivals = []) (hhas : bufferHas s s.idx = true) (hw : w.length = 8)
    (hscl : s.envScl = List.replicate 9 true ++ scl) (hsda : s.envSda = w ++ [nack] ++ sda) :
    ∃ x : Byte, x.getLsbD 0 = nack ∧
      RunsTo 65 s (afterCall { s with ddrScl := true, ddrSda := false } Micro.WR5 1 x scl sda) := by
  have hdrive : RunsTo 1 s { s with fsm := Micro.WR1, ddrScl := true, portScl := false } :=
    .of_exec hf (by decide) rfl harr fun _ => ⟨_, rfl⟩
  have hload : RunsTo 1 { s with fsm := Micro.WR1, ddrScl := true, portScl := false } { s with
      fsm := Micro.WR2, ddrScl := true, portScl := false, dr := bufferByte s s.idx } :=
    .of_exec (c := Micro.WR1) rfl (by decide) rfl harr fun tr => ⟨_, exec_wr1_of_bufRead (bufRead_of_has hhas)⟩
  have hbyte := runsTo_call (s := { s with
      fsm := Micro.WR2, ddrScl := true, portScl := false, dr := bufferByte s s.idx }) (i := .wr2) (bits := w)
    (by rw [hw]; rfl) rfl (.inl hw) rfl harr rfl (scl := true :: scl) (by rw [hw]; exact hscl)
    (sda := nack :: sda) (by rw [List.append_cons]; exact hsda)
  rw [hw] at hbyte
  have hinput : ∀ u : State, u.fsm = Micro.WR3 → u.arrivals = [] →
      RunsTo 1 u { u with fsm := Micro.WR4, ddrSda := false } := fun u hu hnone =>
    .of_exec hu (by decide) rfl hnone fun _ => ⟨_, rfl⟩
  have hsent := (((hdrive.trans hload).trans hbyte).trans (hinput _ rfl harr)).trans
    (runsTo_call (i := .wr4) (bits := [nack]) rfl rfl (.inr rfl) rfl harr rfl rfl rfl)
  exact ⟨_, received_bit_of_input rfl nack, hsent⟩

/-- WR5 to LP's entry, on ACK (43_transfer_fsm R175, R176). -/
theorem runsTo_acknowledged {s : State} (hf : s.fsm = Micro.WR5) (harr : s.arrivals = [])
    (hhas : bufferHas s s.idx = true) (hack : s.xret.getLsbD 0 = false) :
    RunsTo 2 s { s with
      fsm := Micro.LP, ddrSda := true, buslog := s.buslog ++ [.tx (bufferByte s s.idx) false] } := by
  have htest : RunsTo 1 s { s with
      fsm := Micro.WR6, buslog := s.buslog ++ [.tx (bufferByte s s.idx) false] } :=
    .of_exec hf (by decide) rfl harr fun tr =>
      ⟨tr, ((writePathSendsBufferByte.1 { s with trace := tr } hhas).2).2 hack⟩
  exact htest.trans (.of_exec (c := Micro.WR6) rfl (by decide) rfl harr fun _ => ⟨_, rfl⟩)

/-- WR5 to IDLE, on NACK (43_transfer_fsm R175, R177 to R179). -/
theorem runsTo_notAcknowledged {s : State} (hf : s.fsm = Micro.WR5) (harr : s.arrivals = [])
    (hhas : bufferHas s s.idx = true) (hnack : s.xret.getLsbD 0 = true) :
    RunsTo 4 s { s with
      arrivals := [], fsm := Micro.IDLE, portScl := true, portSda := true, result := false, busy := false
      buslog := s.buslog ++ [.tx (bufferByte s s.idx) true] ++ [.abort] } := by
  have htest : RunsTo 1 s { s with
      fsm := Micro.NK0, buslog := s.buslog ++ [.tx (bufferByte s s.idx) true] } :=
    .of_exec hf (by decide) rfl harr fun tr =>
      ⟨tr, ((writePathSendsBufferByte.1 { s with trace := tr } hhas).2).1 hnack⟩
  exact htest.trans (runsTo_abort rfl harr)

/-- RD4's acknowledge in one form: the bit the master sends is whether the byte is the last (43_transfer_fsm R184). -/
theorem exec_rd4_eq (s : State) : exec .rd4 s =
    finish s (logBus (.rx s.xret (decide (s.rem = 1))) (loadDr (if s.rem = 1 then 0xFF else 0x00) s)) Micro.RD5 := by
  by_cases hlast : s.rem = 1
  · rw [exec_rd4_of_last hlast, if_pos hlast, decide_eq_true hlast]
  · rw [exec_rd4_of_not_last hlast, if_neg hlast, decide_eq_false hlast]

/-- RD0 to LP's entry: the slave's byte `d` is stored at IDX, logged and answered (43_transfer_fsm R180 to R185). -/
theorem runsTo_receiveByte {s : State} {d : Byte} {e : Bool} {scl sda : List Bool} (hf : s.fsm = Micro.RD0)
    (harr : s.arrivals = []) (hport : s.portScl = false) (hb : s.bufsel = false)
    (haddr : s.argBuf + s.idx < s.params.memSize) (hscl : s.envScl = List.replicate 9 true ++ scl)
    (hsda : s.envSda = wireBits d ++ [e] ++ sda) :
    ∃ x, RunsTo 66 s (afterCall { s with
      ddrSda := true, mem := memPut s.mem (s.argBuf + s.idx) d
      buslog := s.buslog ++ [.rx d (decide (s.rem = 1))] } Micro.LP 1 x scl sda) := by
  have hinput : RunsTo 1 s { s with fsm := Micro.RD1, ddrSda := false } :=
    .of_exec hf (by decide) rfl harr fun _ => ⟨_, rfl⟩
  have hbyte := runsTo_call (s := { s with fsm := Micro.RD1, ddrSda := false }) (i := .rd1) (bits := wireBits d)
    rfl rfl (.inl rfl) rfl harr hport (scl := true :: scl) hscl (sda := e :: sda) (by rw [List.append_cons]; exact hsda)
  rw [received_byte_of_input rfl] at hbyte
  have hstore : ∀ u : State, u.fsm = Micro.RD2 → u.arrivals = [] → u.bufsel = false →
      u.argBuf + u.idx < u.params.memSize →
      RunsTo 1 u { u with fsm := Micro.RD3, mem := memPut u.mem (u.argBuf + u.idx) u.xret } := fun u hu hnone hb hlt =>
    .of_exec hu (by decide) rfl hnone fun tr => ⟨tr, exec_rd2_of_lt (s := { u with trace := tr }) hb hlt⟩
  have houtput : ∀ u : State, u.fsm = Micro.RD3 → u.arrivals = [] →
      RunsTo 1 u { u with fsm := Micro.RD4, ddrSda := true } := fun u hu hnone =>
    .of_exec hu (by decide) rfl hnone fun _ => ⟨_, rfl⟩
  have hanswer : ∀ u : State, u.fsm = Micro.RD4 → u.arrivals = [] →
      RunsTo 1 u { u with
        fsm := Micro.RD5, dr := if u.rem = 1 then 0xFF else 0x00
        buslog := u.buslog ++ [.rx u.xret (decide (u.rem = 1))] } := fun u hu hnone =>
    .of_exec hu (by decide) rfl hnone fun tr => ⟨_, exec_rd4_eq { u with trace := tr }⟩
  have hstored := (hinput.trans hbyte).trans (hstore _ rfl harr hb haddr)
  have hlogged := (hstored.trans (houtput _ rfl harr)).trans (hanswer _ rfl harr)
  exact ⟨_, hlogged.trans (runsTo_call (i := .rd5) (bits := [e]) rfl rfl (.inr rfl) rfl harr rfl rfl rfl)⟩

/-- SP0 to IDLE: the stop condition and the return of success (43_transfer_fsm R187 to R194). -/
theorem runsTo_stop {s : State} {scl : List Bool} (hf : s.fsm = Micro.SP0) (harr : s.arrivals = [])
    (hscl : s.envScl = true :: true :: scl) :
    RunsTo 8 s { s with
      arrivals := [], fsm := Micro.IDLE, ddrScl := false, ddrSda := false, portSda := false, result := true
      busy := false, buslog := s.buslog ++ [.stop], envScl := scl } := by
  have hwait := (runsTo_stopSetUp hf harr).trans (runsTo_sclHigh (.inr (.inl ⟨rfl, rfl, rfl⟩)) rfl rfl rfl hscl)
  have hagain := (hwait.trans (runsTo_stopCondition rfl rfl)).trans
    (runsTo_sclHigh (.inr (.inr ⟨rfl, rfl, rfl⟩)) rfl rfl rfl rfl)
  exact hagain.trans (.of_exec (c := Micro.SP7) rfl (by decide) rfl rfl fun tr => ⟨tr, sp7ReturnsSuccess _⟩)

/-- From the decode to the first visit of BD (43_transfer_fsm R160 to R168). -/
theorem runsTo_start {s : State} {scl : List Bool} (h : transferIssued s) (hscl : s.envScl = true :: scl) :
    RunsTo 9 s { s with
      arrivals := [], fsm := Micro.BD, cmd := none, busy := true, bufsel := false, rem := s.argLen, idx := 0
      phase := Phase.ADDRESS, ddrScl := true, portScl := false, ddrSda := true, portSda := true
      buslog := s.buslog ++ [.start], envScl := scl } := by
  obtain ⟨-, -, -, harr, -, -⟩ := id h
  have hsetUp := (runsTo_decode h).trans (runsTo_setUp rfl harr)
  have hwait := hsetUp.trans (runsTo_sclHigh (.inl ⟨rfl, rfl, rfl⟩) rfl rfl rfl hscl)
  exact hwait.trans (runsTo_startCondition rfl rfl)

end Sys2Proof.Safety

/-! ### A transfer byte by byte -/

namespace Sys2Proof.Safety

open Sys2Proof.Machine

theorem Inv.of_runs {n : Nat} {s t : State} (h : Inv s) (hrun : runs n s = .next t) : Inv t := by
  induction n generalizing s with
  | zero =>
    cases hrun
    exact h
  | succ n ih =>
    rw [runs_succ] at hrun
    cases hstep : step s with
    | next u =>
      rw [hstep] at hrun
      exact ih (stepKeepsInvariant s u h hstep) hrun
    | fault f =>
      rw [hstep] at hrun
      cases hrun
    | refused r =>
      rw [hstep] at hrun
      cases hrun

/-- In `t` the transfer issued in `s` has `n` bytes behind it, and stands at BD or, after the last byte, at SP0: host
memory holds `m`, BUSLOG has grown by `log`, and the environment still has the answers `scl` and `sda`. -/
structure AfterBytes (s : State) (n : Nat) (m : Memory) (log : List BusEvent) (scl sda : List Bool) (t : State) :
    Prop where
  inv : Inv t
  fsm : t.fsm = if n = s.argLen then Micro.SP0 else Micro.BD
  arrivals : t.arrivals = []
  argBuf : t.argBuf = s.argBuf
  argLen : t.argLen = s.argLen
  bufsel : t.bufsel = false
  idx : t.idx = n
  mem : t.mem = m
  buslog : t.buslog = s.buslog ++ log
  envScl : t.envScl = scl
  envSda : t.envSda = sda
  /-- The last call of XFER left its counter and flag (42_bit_byte_transfer R152). -/
  counter : 1 ≤ n → t.cnt = 0 ∧ t.oif = true

section

variable {s t : State} {n : Nat} {m : Memory} {log : List BusEvent} {scl sda : List Bool}

theorem AfterBytes.addressByte_eq (h : AfterBytes s n m log scl sda t) : addressByte t = memGet m s.argBuf := by
  simp [addressByte, bufferByte, h.bufsel, h.mem, h.argBuf]

theorem AfterBytes.bufferByte_idx (h : AfterBytes s n m log scl sda t) :
    bufferByte t t.idx = memGet m (s.argBuf + n) := by
  simp [bufferByte, h.bufsel, h.mem, h.argBuf, h.idx]

/-- While bytes remain, the transfer stands at BD, and the next byte exists. -/
theorem AfterBytes.fsm_of_lt (h : AfterBytes s n m log scl sda t) (hn : n < s.argLen) : t.fsm = Micro.BD :=
  h.fsm.trans (if_neg (by omega))

theorem AfterBytes.bufferHas_idx (h : AfterBytes s n m log scl sda t) (hn : n < s.argLen) : bufferHas t t.idx = true :=
  h.inv.bufferHas_idx (h.fsm_of_lt hn) rfl rfl rfl

/-- REM counts the bytes left (10_state R49 item 4). -/
theorem AfterBytes.add_rem (h : AfterBytes s n m log scl sda t) : n + t.rem = s.argLen := by
  have hset : setUp t.fsm = true := by
    rw [h.fsm]
    split <;> rfl
  rw [← h.idx, (h.inv.count hset).1, transferLength, h.bufsel, ← h.argLen]
  rfl

/-- LP ends a byte that is sent or received: the registers hold the count of it. -/
theorem AfterBytes.exists_next {u : State} {k : Nat} {e : BusEvent} (h : AfterBytes s n m log scl sda t)
    (hn : n < s.argLen) (hrun : RunsTo k t u) (hf : u.fsm = Micro.LP) (harr : u.arrivals = [])
    (hkeep : u.params = t.params ∧ u.argBuf = t.argBuf ∧ u.argLen = t.argLen ∧ u.bufsel = t.bufsel ∧ u.rem = t.rem ∧
      u.idx = t.idx)
    (hlog : u.buslog = t.buslog ++ [e]) (hcounter : u.cnt = 0 ∧ u.oif = true) :
    ∃ v, runs (k + 1) t = .next v ∧ AfterBytes s (n + 1) u.mem (log ++ [e]) u.envScl u.envSda v := by
  obtain ⟨hparams, hargBuf, hargLen, hbufsel, hrem, hidx⟩ := hkeep
  obtain ⟨-, hlenw, hremw, -⟩ := h.inv.widths
  have hsum := h.add_rem
  rw [h.argLen] at hlenw
  have hlp := runsTo_lp hf harr (by omega) (by rwa [hrem, hparams]) (by rw [hidx, hparams, h.idx]; omega)
  obtain ⟨tr, hv⟩ := hrun.trans hlp t.trace
  have hlast : (u.rem = 1) = (n + 1 = s.argLen) := by
    rw [hrem]
    exact propext (by omega)
  exact ⟨_, hv, {
    inv := h.inv.of_runs hv
    fsm := by simp only [hlast]
    arrivals := harr
    argBuf := hargBuf.trans h.argBuf
    argLen := hargLen.trans h.argLen
    bufsel := hbufsel.trans h.bufsel
    idx := by rw [hidx, h.idx]
    mem := rfl
    buslog := by rw [hlog, h.buslog, List.append_assoc]
    envScl := rfl
    envSda := rfl
    counter := fun _ => hcounter }⟩

/-- BD sends the master on to the write path for the address byte and in a write (43_transfer_fsm R169). -/
theorem AfterBytes.runsTo_writePath (h : AfterBytes s n m log scl sda t) (hn : n < s.argLen)
    (hdir : n = 0 ∨ (memGet m s.argBuf).getLsbD 0 = false) :
    ∃ phase, RunsTo 1 t { t with phase := phase, fsm := Micro.WR0 } := by
  have hf := h.fsm_of_lt hn
  rcases h.inv.dispatch hf with ⟨haddr, hidx⟩ | ⟨hphase, hpos⟩
  · have hhas : bufferHas t 0 = true := hidx ▸ h.bufferHas_idx hn
    exact ⟨directionPhase (addressByte t), .of_exec hf (by decide) rfl h.arrivals fun tr =>
      ⟨tr, exec_bd_of_first_visit (s := { t with trace := tr }) haddr hhas⟩⟩
  · have heven := hdir.resolve_left (by rw [← h.idx]; omega)
    have hwrite : t.phase = Phase.WRITE := by
      rw [hphase, h.addressByte_eq, directionPhase, heven]
      rfl
    exact ⟨t.phase, .of_exec hf (by decide) rfl h.arrivals fun tr =>
      ⟨tr, exec_bd_of_write (s := { t with trace := tr }) hwrite⟩⟩

/-- BD sends the master on to the read phase for the data bytes of a read (43_transfer_fsm R169). -/
theorem AfterBytes.runsTo_readPhase (h : AfterBytes s n m log scl sda t) (hn : n < s.argLen) (hpos : 1 ≤ n)
    (hodd : (memGet m s.argBuf).getLsbD 0 = true) : RunsTo 1 t { t with fsm := Micro.RD0 } := by
  have hf := h.fsm_of_lt hn
  obtain ⟨hphase, -⟩ := (h.inv.dispatch hf).resolve_left fun hfirst => by
    have hidx := h.idx
    omega
  have hread : t.phase = Phase.READ := by
    rw [hphase, h.addressByte_eq, directionPhase, hodd]
    rfl
  exact .of_exec hf (by decide) rfl h.arrivals fun tr => ⟨tr, exec_bd_of_read (s := { t with trace := tr }) hread⟩

/-- A byte sent, up to the test of the slave's bit. -/
theorem AfterBytes.runsTo_testAck {w : List Bool} {nack : Bool}
    (h : AfterBytes s n m log (List.replicate 9 true ++ scl) (w ++ [nack] ++ sda) t) (hn : n < s.argLen)
    (hdir : n = 0 ∨ (memGet m s.argBuf).getLsbD 0 = false) (hw : w.length = 8) :
    ∃ phase x, x.getLsbD 0 = nack ∧ RunsTo 66 t
      (afterCall { t with phase := phase, ddrScl := true, ddrSda := false } Micro.WR5 1 x scl sda) := by
  obtain ⟨phase, hdispatch⟩ := h.runsTo_writePath hn hdir
  obtain ⟨x, hx, hsend⟩ := runsTo_sendByte (s := { t with phase := phase, fsm := Micro.WR0 }) rfl h.arrivals
    (h.bufferHas_idx hn) hw h.envScl h.envSda
  exact ⟨phase, x, hx, hdispatch.trans hsend⟩

/-- One byte sent and acknowledged takes 69 steps. -/
theorem AfterBytes.exists_sent {w : List Bool}
    (h : AfterBytes s n m log (List.replicate 9 true ++ scl) (w ++ [false] ++ sda) t) (hn : n < s.argLen)
    (hdir : n = 0 ∨ (memGet m s.argBuf).getLsbD 0 = false) (hw : w.length = 8) :
    ∃ u, runs 69 t = .next u ∧
      AfterBytes s (n + 1) m (log ++ [.tx (memGet m (s.argBuf + n)) false]) scl sda u := by
  obtain ⟨phase, x, hx, htest⟩ := h.runsTo_testAck hn hdir hw
  have hacked := htest.trans (runsTo_acknowledged rfl h.arrivals (h.bufferHas_idx hn) hx)
  rw [← h.bufferByte_idx, ← h.mem]
  exact h.exists_next hn hacked rfl h.arrivals ⟨rfl, rfl, rfl, rfl, rfl, rfl⟩ rfl ⟨rfl, rfl⟩

/-- One byte received takes 68 steps; the master acknowledges it unless it is the last. -/
theorem AfterBytes.exists_received {d : Byte} {e : Bool}
    (h : AfterBytes s n m log (List.replicate 9 true ++ scl) (wireBits d ++ [e] ++ sda) t) (hn : n < s.argLen)
    (hpos : 1 ≤ n) (hodd : (memGet m s.argBuf).getLsbD 0 = true) :
    ∃ u, runs 68 t = .next u ∧
      AfterBytes s (n + 1) (memPut m (s.argBuf + n) d) (log ++ [.rx d (decide (n + 1 = s.argLen))]) scl sda u := by
  have hf := h.fsm_of_lt hn
  have hport : t.portScl = false := (h.inv.scl_latches hf rfl).2
  have haddr : t.argBuf + t.idx < t.params.memSize := by
    simpa [bufferHas, h.bufsel] using h.bufferHas_idx hn
  have hlast : (t.rem = 1) = (n + 1 = s.argLen) := by
    have hsum := h.add_rem
    exact propext (by omega)
  obtain ⟨x, hreceive⟩ := runsTo_receiveByte (s := { t with fsm := Micro.RD0 }) rfl h.arrivals hport h.bufsel haddr
    h.envScl h.envSda
  have hrun := (h.runsTo_readPhase hn hpos hodd).trans hreceive
  have hstored : memPut m (s.argBuf + n) d = memPut t.mem (t.argBuf + t.idx) d := by rw [h.mem, h.argBuf, h.idx]
  simp only [← hlast]
  rw [hstored]
  exact h.exists_next hn hrun rfl h.arrivals ⟨rfl, rfl, rfl, rfl, rfl, rfl⟩ rfl ⟨rfl, rfl⟩

end

end Sys2Proof.Safety

/-! ### Whole transfers (43_transfer_fsm R195 to R208) -/

namespace Sys2Proof.Safety

open Sys2Proof.Machine

theorem bufferBytes_length (s : State) : (bufferBytes s).length = s.argLen := by simp [bufferBytes]

/-- One more byte of the buffer. -/
theorem take_succ_bufferBytes {s : State} {n : Nat} (hn : n < s.argLen) :
    (bufferBytes s).take (n + 1) = (bufferBytes s).take n ++ [memGet s.mem (s.argBuf + n)] := by
  rw [List.take_succ_eq_append_getElem (by rwa [bufferBytes_length])]
  simp [bufferBytes]

/-- The start condition. -/
theorem exists_started {s : State} {scl sda : List Bool} (h : Inv s) (hissued : transferIssued s)
    (hscl : s.envScl = true :: scl) (hsda : s.envSda = sda) :
    ∃ t, runs 9 s = .next t ∧ AfterBytes s 0 s.mem [.start] scl sda t := by
  obtain ⟨-, -, -, -, hlen, -⟩ := id hissued
  obtain ⟨tr, hrun⟩ := runsTo_start hissued hscl s.trace
  exact ⟨_, hrun, {
    inv := h.of_runs hrun
    fsm := (if_neg (by omega)).symm
    arrivals := rfl
    argBuf := rfl
    argLen := rfl
    bufsel := rfl
    idx := rfl
    mem := rfl
    buslog := rfl
    envScl := rfl
    envSda := hsda
    counter := fun hpos => absurd hpos (by decide) }⟩

/-- The start condition and the bytes sent and acknowledged, `samples` being the answers to the bits of each: of a read
only the address byte is sent (43_transfer_fsm R202, R203). -/
theorem exists_sentBytes {s : State} {samples : List (List Bool)} {scl sda : List Bool} (h : Inv s)
    (hissued : transferIssued s) (hlen : samples.length ≤ s.argLen)
    (hdir : samples.length ≤ 1 ∨ (memGet s.mem s.argBuf).getLsbD 0 = false) (hbits : ∀ w ∈ samples, w.length = 8)
    (hscl : s.envScl = List.replicate (9 * samples.length + 1) true ++ scl)
    (hsda : s.envSda = samples.flatMap (fun w => w ++ [false]) ++ sda) :
    ∃ t, runs (9 + 69 * samples.length) s = .next t ∧
      AfterBytes s samples.length s.mem
        ([.start] ++ ((bufferBytes s).take samples.length).map fun b => .tx b false) scl sda t := by
  induction samples using List.reverseRecOn generalizing scl sda with
  | nil => exact exists_started h hissued hscl hsda
  | append_singleton ws w ih =>
    simp only [List.length_append, List.length_singleton] at hlen hdir hscl ⊢
    have hscl' : s.envScl = List.replicate (9 * ws.length + 1) true ++ (List.replicate 9 true ++ scl) := by
      rw [hscl, show 9 * (ws.length + 1) + 1 = 9 * ws.length + 1 + 9 by omega, List.replicate_add, List.append_assoc]
    have hsda' : s.envSda = ws.flatMap (fun w => w ++ [false]) ++ (w ++ [false] ++ sda) := by
      simpa using hsda
    obtain ⟨t, hrun, ht⟩ := ih (by omega) (hdir.imp_left (by omega)) (fun v hv => hbits v (by simp [hv])) hscl' hsda'
    obtain ⟨u, hsent, hu⟩ := ht.exists_sent (by omega) (hdir.imp_left (by omega)) (hbits w (by simp))
    refine ⟨u, ?_, ?_⟩
    · rw [show 9 + 69 * (ws.length + 1) = 9 + 69 * ws.length + 69 by omega, runs_add hrun, hsent]
    · rw [take_succ_bufferBytes (by omega), List.map_append, ← List.append_assoc]
      exact hu

/-- What success leaves: both lines inputs, no byte left, and the log closed by the stop condition (43_transfer_fsm
R196, R202). -/
structure Succeeded (s : State) (m : Memory) (log : List BusEvent) (scl sda : List Bool) (t : State) : Prop where
  fsm : t.fsm = Micro.IDLE
  result : t.result = true
  busy : t.busy = false
  mem : t.mem = m
  buslog : t.buslog = s.buslog ++ log ++ [.stop]
  ddrScl : t.ddrScl = false
  portScl : t.portScl = false
  ddrSda : t.ddrSda = false
  portSda : t.portSda = false
  rem : t.rem = 0
  idx : t.idx = s.argLen
  cnt : t.cnt = 0
  oif : t.oif = true
  cr : t.cr = 0x2A
  envScl : t.envScl = scl
  envSda : t.envSda = sda

/-- During a transfer CR holds its value: INIT has run (10_state R49 item 2, 41_initializer R138). -/
theorem AfterBytes.cr {s t : State} {n : Nat} {m : Memory} {log : List BusEvent} {scl sda : List Bool}
    (h : AfterBytes s n m log scl sda t) : t.cr = 0x2A := by
  have hplace : t.fsm ≠ Micro.IDLE ∧ t.fsm ≠ Micro.IN0 := by
    rw [h.fsm]
    split <;> decide
  exact h.inv.control (by simpa [hplace.2] using h.inv.initialised hplace.1)

/-- The stop condition after the last byte takes 8 steps without stretching. -/
theorem AfterBytes.exists_stopped {s t : State} {m : Memory} {log : List BusEvent} {scl sda : List Bool}
    (h : AfterBytes s s.argLen m log (true :: true :: scl) sda t) (hpos : 1 ≤ s.argLen) :
    ∃ u, runs 8 t = .next u ∧ Succeeded s m log scl sda u := by
  have hf : t.fsm = Micro.SP0 := h.fsm.trans (if_pos rfl)
  obtain ⟨hcnt, hoif⟩ := h.counter hpos
  have hrem : t.rem = 0 := by
    have hsum := h.add_rem
    omega
  obtain ⟨tr, hrun⟩ := runsTo_stop hf h.arrivals h.envScl t.trace
  exact ⟨_, hrun, {
    fsm := rfl
    result := rfl
    busy := rfl
    mem := h.mem
    buslog := by rw [← h.buslog]
    ddrScl := rfl
    portScl := (h.inv.scl_latches hf rfl).2
    ddrSda := rfl
    portSda := rfl
    rem := hrem
    idx := h.idx
    cnt := hcnt
    oif := hoif
    cr := h.cr
    envScl := rfl
    envSda := h.envSda }⟩

/-- Settles O55: the start condition and L bytes sent, by induction on the bytes, and then the stop condition. -/
theorem writeTransferSucceeds : Obligations.WriteTransferSucceeds := by
  intro s samples scl sda h hissued heven hlen hbits hscl hsda
  obtain ⟨-, -, -, -, hpos, -⟩ := id hissued
  have hscl' : s.envScl = List.replicate (9 * samples.length + 1) true ++ (true :: true :: scl) := by
    rw [hscl, hlen]
    simp [List.replicate_succ']
  obtain ⟨t, hrun, ht⟩ := exists_sentBytes h hissued (by omega) (.inr heven) hbits hscl' hsda
  rw [hlen] at hrun ht
  rw [List.take_of_length_le (by rw [bufferBytes_length])] at ht
  obtain ⟨u, hstop, hu⟩ := ht.exists_stopped hpos
  refine ⟨u, ?_, hu.fsm, hu.result, hu.busy, hu.mem, ?_, hu.ddrScl, hu.portScl, hu.ddrSda, hu.portSda, hu.rem, hu.idx,
    hu.cnt, hu.oif, hu.cr, hu.envScl, hu.envSda⟩
  · rw [show 17 + 69 * s.argLen = 9 + 69 * s.argLen + 8 by omega, runs_add hrun, hstop]
  · rw [hu.buslog, ← List.append_assoc s.buslog]

/-- Settles O56: the start condition and the j bytes acknowledged, then the byte that is not, and the abort. -/
theorem nackAbortsTransfer : Obligations.NackAbortsTransfer := by
  intro s j samples last scl sda h hissued hj hdir hlen hbits hlast hscl hsda
  subst hlen
  have hscl' : s.envScl = List.replicate (9 * samples.length + 1) true ++ (List.replicate 9 true ++ scl) := by
    rw [hscl, show 9 * samples.length + 10 = 9 * samples.length + 1 + 9 by omega, List.replicate_add, List.append_assoc]
  have hsda' : s.envSda = samples.flatMap (fun w => w ++ [false]) ++ (last ++ [true] ++ sda) := by
    simpa using hsda
  obtain ⟨t, hrun, ht⟩ := exists_sentBytes h hissued (by omega) (hdir.symm.imp_left (by omega)) hbits hscl' hsda'
  have hrem : t.rem = s.argLen - samples.length := by
    have hsum := ht.add_rem
    omega
  obtain ⟨phase, x, hx, htest⟩ := ht.runsTo_testAck hj hdir.symm hlast
  obtain ⟨tr, habort⟩ := htest.trans (runsTo_notAcknowledged rfl ht.arrivals (ht.bufferHas_idx hj) hx) t.trace
  have hsplit : runs (79 + 69 * samples.length) s = runs 70 t := by
    rw [show 79 + 69 * samples.length = 9 + 69 * samples.length + 70 by omega, runs_add hrun]
  refine ⟨_, hsplit.trans habort, rfl, rfl, rfl, ht.mem, ?_, rfl, rfl, rfl, rfl, hrem, ht.idx, rfl, rfl, rfl, rfl, rfl⟩
  show t.buslog ++ [.tx (bufferByte t t.idx) true] ++ [.abort] = _
  rw [ht.buslog, ht.bufferByte_idx]
  simp

theorem rxEvents_cons (b : Byte) (rest : List Byte) : rxEvents (b :: rest) = .rx b rest.isEmpty :: rxEvents rest := by
  cases rest <;> rfl

/-- The data bytes of a read, from byte `n` to the buffer's last: the master stores each at its index, and acknowledges
each but the last (43_transfer_fsm R198, R208). -/
theorem AfterBytes.exists_receivedBytes {s t : State} {n : Nat} {m : Memory} {log : List BusEvent}
    {data : List (Byte × Bool)} {scl sda : List Bool}
    (h : AfterBytes s n m log (List.replicate (9 * data.length) true ++ scl)
      (data.flatMap (fun d => wireBits d.1 ++ [d.2]) ++ sda) t)
    (hlen : n + data.length = s.argLen) (hpos : 1 ≤ n) (hodd : (memGet m s.argBuf).getLsbD 0 = true) :
    ∃ u m', runs (68 * data.length) t = .next u ∧
      AfterBytes s s.argLen m' (log ++ rxEvents (data.map fun d => d.1)) scl sda u ∧
      ∀ a, memGet m' a = if s.argBuf + n ≤ a ∧ a < s.argBuf + s.argLen then
        (data.map fun d => d.1).getD (a - (s.argBuf + n)) 0 else memGet m a := by
  induction data generalizing n m log t with
  | nil =>
    obtain rfl : n = s.argLen := hlen
    refine ⟨t, m, rfl, by simpa [rxEvents] using h, fun a => ?_⟩
    rw [if_neg (by omega)]
  | cons d ds ih =>
    rw [List.length_cons] at hlen
    have hwf : Memory.wf m = true := h.mem ▸ h.inv.memory.1
    have hput : ∀ a, memGet (memPut m (s.argBuf + n) d.1) a = if a = s.argBuf + n then d.1 else memGet m a :=
      fun a => memGet_memPut _ a _ hwf
    have hbyte : AfterBytes s n m log (List.replicate 9 true ++ (List.replicate (9 * ds.length) true ++ scl))
        (wireBits d.1 ++ [d.2] ++ (ds.flatMap (fun d => wireBits d.1 ++ [d.2]) ++ sda)) t := by
      rw [← List.append_assoc, ← List.replicate_add, ← List.append_assoc]
      rwa [List.length_cons, show 9 * (ds.length + 1) = 9 + 9 * ds.length by omega, List.flatMap_cons] at h
    obtain ⟨u, hrun, hu⟩ := hbyte.exists_received (by omega) hpos hodd
    have hodd' : (memGet (memPut m (s.argBuf + n) d.1) s.argBuf).getLsbD 0 = true := by
      rwa [hput, if_neg (by omega)]
    obtain ⟨v, m', hrest, hv, hmem⟩ := ih hu (by omega) (by omega) hodd'
    have hlast : decide (n + 1 = s.argLen) = (ds.map fun d => d.1).isEmpty := by
      cases ds with
      | nil => simpa using hlen
      | cons e es =>
        rw [List.length_cons] at hlen
        exact decide_eq_false (by omega)
    refine ⟨v, m', ?_, ?_, fun a => ?_⟩
    · rw [List.length_cons, show 68 * (ds.length + 1) = 68 + 68 * ds.length by omega, runs_add hrun, hrest]
    · rw [hlast, List.append_assoc] at hv
      rwa [List.map_cons, rxEvents_cons]
    · rw [hmem, hput, List.map_cons]
      by_cases hthis : a = s.argBuf + n
      · rw [if_neg (by omega), if_pos hthis, if_pos (by omega), hthis, Nat.sub_self, List.getD_cons_zero]
      · rw [if_neg hthis]
        by_cases hlater : s.argBuf + n < a ∧ a < s.argBuf + s.argLen
        · rw [if_pos (by omega), if_pos (by omega),
            show a - (s.argBuf + n) = a - (s.argBuf + (n + 1)) + 1 by omega, List.getD_cons_succ]
        · rw [if_neg (by omega), if_neg (by omega)]

/-- Settles O57: the start condition and the address byte sent, the data bytes received, by induction on them, and the
stop condition. -/
theorem readTransferSucceeds : Obligations.ReadTransferSucceeds := by
  intro s address data scl sda h hissued hodd haddress hlen hscl hsda
  have hpos : 1 ≤ s.argLen := by omega
  have hscl' : s.envScl =
      List.replicate (9 * 1 + 1) true ++ (List.replicate (9 * data.length) true ++ (true :: true :: scl)) := by
    have htail : (true :: true :: scl) = List.replicate 2 true ++ scl := rfl
    rw [hscl, ← hlen, htail, ← List.append_assoc, ← List.append_assoc, ← List.replicate_add, ← List.replicate_add]
    congr 2
    omega
  have hsda' : s.envSda = [address].flatMap (fun w => w ++ [false]) ++
      (data.flatMap (fun d => wireBits d.1 ++ [d.2]) ++ sda) := by
    simpa using hsda
  obtain ⟨t, hrun, ht⟩ := exists_sentBytes (samples := [address]) h hissued hpos (.inl (Nat.le_refl _))
    (by simpa using haddress) hscl' hsda'
  have htake : (bufferBytes s).take 1 = [memGet s.mem s.argBuf] := take_succ_bufferBytes (n := 0) hpos
  rw [List.length_singleton] at hrun ht
  rw [htake] at ht
  obtain ⟨u, m, hreceive, hu, hmem⟩ := ht.exists_receivedBytes (by omega) (Nat.le_refl _) hodd
  obtain ⟨v, hstop, hv⟩ := hu.exists_stopped hpos
  refine ⟨v, ?_, hv.fsm, hv.result, hv.busy, fun a => ?_, ?_, hv.ddrScl, hv.portScl, hv.ddrSda, hv.portSda, hv.rem,
    hv.idx, hv.cnt, hv.oif, hv.cr⟩
  · rw [← hlen, show 86 + 68 * (data.length + 1 - 1) = 9 + 69 * 1 + (68 * data.length + 8) by omega, runs_add hrun,
      runs_add hreceive, hstop]
  · rw [hv.mem, hmem, Nat.sub_sub]
    rfl
  · rw [hv.buslog]
    simp

end Sys2Proof.Safety

/-! ### WRITE_BYTE (44_write_byte) -/

namespace Sys2Proof.Safety

open Sys2Proof.Machine

/-- A WRITE_BYTE whose checks pass is accepted (44_write_byte R220). -/
theorem exec_writeByte_of_checks {s : State} (hdone : s.initDone = true) (haddr : s.argAddr.toNat ≤ 0x7F) :
    exec .writeByte s = finish s (accept s) Micro.WB0 := by
  simp only [exec, execWriteByte]
  rw [if_neg (by simp [hdone]), if_neg (by omega)]

/-- Settles O14: the two checks of R220 in their order, and the acceptance when both pass. -/
theorem writeByteDecode : Obligations.WriteByteDecode := by
  refine ⟨fun s hdone haddr => ?_, fun s hdone => if_pos (by simp [hdone]), fun s hdone haddr => ?_⟩
  · rw [exec_writeByte_of_checks hdone haddr]
    exact stepsTo_finish s (accept s) _
  · simp only [exec, execWriteByte]
    rw [if_neg (by simp [hdone]), if_pos haddr]
    rfl

/-- The seven low bits shifted within a byte are the whole byte shifted: bit 7 is lost in both (30_encoding R90). -/
theorem writeAddressByte_eq_shiftLeft (addr : Byte) : writeAddressByte addr = addr <<< 1 := by
  apply BitVec.eq_of_toNat_eq
  simp only [writeAddressByte, BitVec.ofNat_eq_ofNat, BitVec.or_zero, BitVec.toNat_shiftLeft, BitVec.toNat_setWidth,
    BitVec.extractLsb'_toNat, Nat.shiftRight_zero, Nat.shiftLeft_eq]
  omega

/-- A 7-bit address loses nothing in WRITE_BYTE's address byte (44_write_byte R221). -/
theorem writeAddressByte_toNat {addr : Byte} (h : addr.toNat ≤ 0x7F) : (writeAddressByte addr).toNat = 2 * addr.toNat := by
  rw [writeAddressByte_eq_shiftLeft, BitVec.toNat_shiftLeft, Nat.shiftLeft_eq]
  omega

/-- Settles O18: WB0 ends in `finish` after the writes of R221; TR0 then finds BUFSEL = 1. -/
theorem wb0BuildsBuffer : Obligations.Wb0BuildsBuffer := by
  refine ⟨fun s => ?_, fun s haddr => ⟨_, rfl, writeAddressByte_toNat haddr, writeAddressByte_even s.argAddr⟩,
    fun s => ⟨_, _, rfl, rfl, rfl⟩⟩
  rw [← writeAddressByte_eq_shiftLeft]
  exact stepsTo_finish s { s with tmp0 := writeAddressByte s.argAddr, tmp1 := s.argData, bufsel := true } _

end Sys2Proof.Safety

/-! ### WRITE_BYTE and the TRANSFER it equals (44_write_byte R222) -/

namespace Sys2Proof.Safety

open Sys2Proof.Machine

/-! ### What a step leaves of the buffer -/

theorem exec_tmp1 {i : Instr} {s t : State} (he : exec i s = .next t) (hi : i ≠ .wb0) : t.tmp1 = s.tmp1 := by
  obtain ⟨-, -, -, -, -, -, -, -, -, -, -, -, -, -, htmp, -⟩ := registersWrittenOnlyByTheirWriters i s t he
  exact by_contra fun hne => hi (htmp (.inr hne))

theorem exec_arrivals {i : Instr} {s t : State} (he : exec i s = .next t) : t.arrivals = s.arrivals := by
  obtain ⟨-, -, -, -, -, -, -, -, -, -, -, -, -, -, -, -, -, -, -, -, -, -, -, -, -, -, -, -, -, -, harr, -⟩ :=
    registersWrittenOnlyByTheirWriters i s t he
  exact harr

/-- On TMPBUF nothing is written to host memory: only RD2 could, and it does not complete (20_memory R53). -/
theorem exec_mem_of_bufsel {i : Instr} {s t : State} (he : exec i s = .next t) (hb : s.bufsel = true) :
    t.mem = s.mem := by
  refine (exec_frame he).mem ?_
  rintro rfl
  obtain ⟨hhost, -, -⟩ := bufWrite_next.1 he
  simp [hb] at hhost

/-! ### The commuting square -/

/-- The state `s` of a WRITE_BYTE, as that of a TRANSFER of the two bytes of the memory `m` at `a`. -/
def asTransfer (a : Nat) (m : Memory) (s : State) : State := { s with bufsel := false, argBuf := a, argLen := 2, mem := m }

theorem Twin.bufsel {s u : State} (h : Twin s u) : s.bufsel = true := h.1

theorem Twin.eq_asTransfer {s u : State} (h : Twin s u) : u = asTransfer u.argBuf u.mem s := h.2.1

/-- A state that holds the same buffer as the twin `s` has the TRANSFER at `u`'s buffer for its own twin. -/
theorem Twin.of_same_buffer {s u t : State} (h : Twin s u) (hparams : t.params = s.params) (hbufsel : t.bufsel = s.bufsel)
    (htmp0 : t.tmp0 = s.tmp0) (htmp1 : t.tmp1 = s.tmp1) : Twin t (asTransfer u.argBuf u.mem t) := by
  obtain ⟨hb, hu, hfit, h0, h1⟩ := h
  refine ⟨hbufsel.trans hb, rfl, ?_, h0.trans htmp0.symm, h1.trans htmp1.symm⟩
  rw [hu] at hfit
  exact hparams ▸ hfit

/-- Both read the same bytes: one from TMPBUF, the other from host memory (20_memory R52). -/
theorem Twin.bufRead_of_ok {s u : State} {i : Nat} {b : Byte} (h : Twin s u) (hread : bufRead s i = .ok b) :
    bufRead u i = .ok b := by
  obtain ⟨hb, hu, hfit, h0, h1⟩ := h
  have hub : u.bufsel = false := by rw [hu]
  rcases bufRead_ok.1 hread with ⟨-, ⟨rfl, rfl⟩ | ⟨rfl, rfl⟩⟩ | ⟨hfalse, -, -⟩
  · exact bufRead_ok.2 (.inr ⟨hub, by omega, h0.symm⟩)
  · exact bufRead_ok.2 (.inr ⟨hub, by omega, h1.symm⟩)
  · simp [hb] at hfalse

/-- A wait looks at the lines and the environment only. -/
theorem waitSclHigh_asTransfer {s t : State} {self k : MicroCode} {f : State → State} (a : Nat) (m : Memory)
    (hf : ∀ s, f (asTransfer a m s) = asTransfer a m (f s)) (hw : waitSclHigh s self k f = .next t) :
    waitSclHigh (asTransfer a m s) self k f = .next (asTransfer a m t) := by
  have hlevel : sclLevel (asTransfer a m s) (nextScl (asTransfer a m s)) = sclLevel s (nextScl s) := rfl
  have htake : traceLine .sclHigh (takeScl (asTransfer a m s)) = asTransfer a m (traceLine .sclHigh (takeScl s)) := rfl
  rcases waitSclHigh_next hw with ⟨hl, rfl⟩ | ⟨hl, rfl⟩
  · rw [waitSclHigh, hlevel, if_pos hl, htake, hf]
    rfl
  · rw [waitSclHigh, hlevel, if_neg (by simp [hl])]
    rfl

/-- What a micro-state other than IDLE and WB0 does on TMPBUF it does on a host buffer that reads alike. TR0 takes the length
2 from both, BD, WR1 and WR5 read the same byte, RD2 does not complete on TMPBUF, and no other one looks at where the bytes
lie. -/
theorem exec_asTransfer {i : Instr} {c : MicroCode} {s t : State} {a : Nat} {m : Memory} (hb : s.bufsel = true)
    (hread : ∀ j b, bufRead s j = .ok b → bufRead (asTransfer a m s) j = .ok b) (hi : encode i = .micro c)
    (hidle : i ≠ .idle) (hwb0 : i ≠ .wb0) (he : exec i s = .next t) :
    exec i (asTransfer a m s) = .next (asTransfer a m t) := by
  cases i with
  | init | transfer | writeByte => cases hi
  | idle => exact absurd rfl hidle
  | wb0 => exact absurd rfl hwb0
  | tr0 =>
    have hlen : transferLength s = transferLength (asTransfer a m s) := if_pos hb
    cases he
    rw [hlen]
    rfl
  | bd =>
    rcases execBd_next he with ⟨hphase, b, hbyte, rfl⟩ | ⟨hphase, -⟩ | ⟨hphase, -⟩
    · rw [exec_bd_of_address (s := asTransfer a m s) hphase, hread 0 b hbyte]
      rfl
    · rw [exec_bd_of_write hphase] at he
      cases he
      exact exec_bd_of_write (s := asTransfer a m s) hphase
    · rw [exec_bd_of_read hphase] at he
      cases he
      exact exec_bd_of_read (s := asTransfer a m s) hphase
  | wr1 | wr5 =>
    obtain ⟨b, hbyte, ht⟩ := onAccess_next.1 he
    cases ht
    exact onAccess_next.2 ⟨b, hread s.idx b hbyte, rfl⟩
  | rd2 =>
    obtain ⟨hhost, -, -⟩ := bufWrite_next.1 he
    simp [hb] at hhost
  | rd4 =>
    rw [exec_rd4_eq] at he ⊢
    cases he
    rfl
  | st1 | sp3 | sp6 | xf3 => exact waitSclHigh_asTransfer a m (fun _ => rfl) he
  | _ =>
    cases he
    rfl

/-- The same, between the twins. -/
theorem Twin.exec_next {i : Instr} {c : MicroCode} {s t u : State} (h : Twin s u) (hi : encode i = .micro c)
    (hidle : i ≠ .idle) (hwb0 : i ≠ .wb0) (he : exec i s = .next t) :
    exec i u = .next (asTransfer u.argBuf u.mem t) := by
  have hexec := exec_asTransfer (a := u.argBuf) (m := u.mem) h.bufsel
    (fun j b hbyte => by rw [← h.eq_asTransfer]; exact h.bufRead_of_ok hbyte) hi hidle hwb0 he
  rwa [← h.eq_asTransfer] at hexec

/-- A micro-state other than IDLE and WB0 leaves the states twins. -/
theorem Twin.of_exec {i : Instr} {c : MicroCode} {s t u : State} (h : Twin s u) (hi : encode i = .micro c)
    (hidle : i ≠ .idle) (hwb0 : i ≠ .wb0) (he : exec i s = .next t) : Twin t (asTransfer u.argBuf u.mem t) := by
  have hframe := exec_frame he
  refine h.of_same_buffer hframe.params (hframe.bufsel ?_) (hframe.tmp0 hwb0) (exec_tmp1 he hwb0)
  have hdecode := not_decode_of_micro hi hidle
  simp only [List.mem_cons, List.not_mem_nil, or_false, not_or] at hdecode ⊢
  exact ⟨hidle, hdecode.2.2.1, hwb0⟩

/-! ### The runs -/

/-- WB0 is not ahead: the block is not in it, and no command is pending or to come from the host. So it holds of a
WRITE_BYTE from TR0 on (44_write_byte R222). -/
structure PastWb0 (s : State) : Prop where
  inv : Inv s
  fsm : s.fsm ≠ Micro.WB0
  cmd : s.cmd = none
  arrivals : s.arrivals = []

/-- An idle block to which nothing comes stutters (41_initializer R130). -/
theorem step_of_idle {s : State} (hf : s.fsm = Micro.IDLE) (hc : s.cmd = none) (harr : s.arrivals = []) :
    step s = .next s :=
  calc step s
    _ = masterStep s := step_of_no_event harr
    _ = exec .idle s := masterStep_of_fetch_ok (fetch_of_idle hf hc)
    _ = .next s := idleDecodesCommands.1 s hf hc

/-- Outside IDLE the micro-state in STATE is performed, and it is not WB0. -/
theorem PastWb0.exists_exec {s : State} (h : PastWb0 s) (hf : s.fsm ≠ Micro.IDLE) :
    ∃ i t, decodeMicro s.fsm = .ok i ∧ i ≠ .idle ∧ i ≠ .wb0 ∧ exec i s = .next t := by
  obtain ⟨i, hd⟩ := h.inv.code
  obtain ⟨t, he⟩ := h.inv.exec_micro_next hf hd
  have hi := encode_of_decodeMicro hd
  refine ⟨i, t, hd, ?_, ?_, he⟩
  · rintro rfl
    injection hi with hcode
    exact hf hcode.symm
  · rintro rfl
    injection hi with hcode
    exact h.fsm hcode.symm

/-- No micro-state goes to WB0: only the decode of WRITE_BYTE does (44_write_byte R220). -/
theorem wb0_notMem_successors {i : Instr} {c : MicroCode} (hi : encode i = .micro c) (hidle : i ≠ .idle) :
    Micro.WB0 ∉ successors i := by
  cases i with
  | init | transfer | writeByte => cases hi
  | idle => exact absurd rfl hidle
  | _ => decide

theorem PastWb0.of_exec {i : Instr} {s t : State} (h : PastWb0 s) (hf : s.fsm ≠ Micro.IDLE)
    (hd : decodeMicro s.fsm = .ok i) (hidle : i ≠ .idle) (he : exec i s = .next t) : PastWb0 t := by
  have hi := encode_of_decodeMicro hd
  exact {
    inv := h.inv.of_exec_micro hf hd he
    fsm := fun hwb0 => wb0_notMem_successors hi hidle (hwb0 ▸ h.inv.exec_successor hi he)
    cmd := ((exec_frame he).cmd (not_decode_of_micro hi hidle)).trans h.cmd
    arrivals := (exec_arrivals he).trans h.arrivals }

/-- One step of both (44_write_byte R222). -/
theorem Twin.exists_step {s u : State} (h : Twin s u) (hs : PastWb0 s) :
    ∃ t v, step s = .next t ∧ step u = .next v ∧ Twin t v ∧ PastWb0 t ∧ t.mem = s.mem ∧ v.mem = u.mem := by
  have hfsm : u.fsm = s.fsm := by rw [h.eq_asTransfer]; rfl
  have hcmd : u.cmd = none := by rw [h.eq_asTransfer]; exact hs.cmd
  have harr : u.arrivals = [] := by rw [h.eq_asTransfer]; exact hs.arrivals
  by_cases hf : s.fsm = Micro.IDLE
  · exact ⟨s, u, step_of_idle hf hs.cmd hs.arrivals, step_of_idle (hfsm.trans hf) hcmd harr, h, hs, rfl, rfl⟩
  · obtain ⟨i, t, hd, hidle, hwb0, he⟩ := hs.exists_exec hf
    have hi := encode_of_decodeMicro hd
    exact ⟨t, asTransfer u.argBuf u.mem t, (step_of_micro rfl hf hd hs.arrivals).trans he,
      (step_of_micro hfsm hf hd harr).trans (h.exec_next hi hidle hwb0 he), h.of_exec hi hidle hwb0 he,
      hs.of_exec hf hd hidle he, exec_mem_of_bufsel he h.bufsel, rfl⟩

/-- A simulation: the steps of the two runs match one by one. -/
theorem Twin.exists_runs {s u : State} (n : Nat) (h : Twin s u) (hs : PastWb0 s) :
    ∃ s' u', runs n s = .next s' ∧ runs n u = .next u' ∧ Twin s' u' ∧ s'.mem = s.mem ∧ u'.mem = u.mem := by
  induction n generalizing s u with
  | zero => exact ⟨s, u, rfl, rfl, h, rfl, rfl⟩
  | succ n ih =>
    obtain ⟨t, v, hstep, hstep', htv, ht, hmem, hmem'⟩ := h.exists_step hs
    obtain ⟨s', u', hrun, hrun', htwin, hkeep, hkeep'⟩ := ih htv ht
    exact ⟨s', u', (runs_succ_of_next hstep).trans hrun, (runs_succ_of_next hstep').trans hrun', htwin,
      hkeep.trans hmem, hkeep'.trans hmem'⟩

/-- Settles O58: under the invariant no step of the WRITE_BYTE stops, and the TRANSFER takes the same step. -/
theorem writeByteEqualsTransfer : Obligations.WriteByteEqualsTransfer :=
  fun n _ _ hinv h hwb0 hcmd harr => h.exists_runs n ⟨hinv, hwb0, hcmd, harr⟩

end Sys2Proof.Safety

namespace Sys2Proof.Safety

open Sys2Proof.Machine

/-! ### Events from outside (60_exceptions R251) -/

/-- An event that is not enabled leaves its step to the master, and stays at the head of the schedule (log 2). -/
theorem step_of_held_event {s : State} {e : Event} {rest : List Arrival} (harr : s.arrivals = ⟨0, e⟩ :: rest)
    (hheld : enabled s e = false) : step s = masterStep s := by
  have hdue : dueEvent s = none := by simp [dueEvent, harr, hheld]
  have htick : tick s = s := by
    simp only [tick, harr, Nat.zero_sub]
    rw [← harr]
  rw [step, hdue, htick]

/-- An event whose delay is not over leaves its step to the master, and comes one step nearer (log 2). -/
theorem step_of_delayed_event {s : State} {d : Nat} {e : Event} {rest : List Arrival}
    (harr : s.arrivals = ⟨d + 1, e⟩ :: rest) : step s = masterStep { s with arrivals := ⟨d, e⟩ :: rest } := by
  have hdue : dueEvent s = none := by simp [dueEvent, harr]
  have htick : tick s = { s with arrivals := ⟨d, e⟩ :: rest } := by simp [tick, harr]
  rw [step, hdue, htick]

/-- Settles O6: the schedule's head is due, held back or delayed. -/
theorem oneEventPerStep : Obligations.OneEventPerStep :=
  ⟨fun _ _ _ => step_of_due_event, fun _ _ _ => step_of_held_event, fun _ _ _ _ => step_of_delayed_event⟩

end Sys2Proof.Safety

namespace Sys2Proof.Machine

/-! ### The refusals of the host's actions (60_exceptions R233 to R235) -/

/-- A value below the bound is stored, one at or above it is refused (60_exceptions R234). -/
theorem storeIfFits_lt (v bound : Nat) (t : State) :
    (v < bound → storeIfFits (decide (v < bound)) t = .next t) ∧
    (bound ≤ v → storeIfFits (decide (v < bound)) t = .refused .operandRange) :=
  ⟨fun hv => storeIfFits_of_fits t (decide_eq_true hv), fun hv => storeIfFits_of_too_wide t (decide_eq_false hv.not_gt)⟩

/-- Settles O37: on a free port each operand register has its own bound. -/
theorem hostWriteChecksRange : Obligations.HostWriteChecksRange := by
  intro s v hbusy hcmd
  have hfree := not_portLocked hbusy hcmd
  simp only [perform, hostWrite_argBuf hfree, hostWrite_argLen hfree, hostWrite_argAddr hfree, hostWrite_argData hfree]
  obtain ⟨hbuf, hbufWide⟩ := storeIfFits_lt v (2 ^ s.params.addrBits) { s with argBuf := v }
  obtain ⟨hlen, hlenWide⟩ := storeIfFits_lt v (2 ^ s.params.lenBits) { s with argLen := v }
  obtain ⟨haddr, haddrWide⟩ := storeIfFits_lt v 0x100 { s with argAddr := BitVec.ofNat 8 v }
  obtain ⟨hdata, hdataWide⟩ := storeIfFits_lt v 0x100 { s with argData := BitVec.ofNat 8 v }
  exact ⟨hbuf, hbufWide, hlen, hlenWide, haddr, haddrWide, hdata, hdataWide⟩

/-- The register at offset `o` does not hold the value (60_exceptions R234; for CMD log 11). -/
def TooWide (s : State) (o v : Nat) : Prop :=
  (o = 4 ∧ 2 ^ s.params.addrBits ≤ v) ∨ (o = 5 ∧ 2 ^ s.params.lenBits ≤ v) ∨ ((o = 0 ∨ o = 2 ∨ o = 3) ∧ 0x100 ≤ v)

/-- When an event from outside is refused with a reason (60_exceptions R233 to R235). -/
def HostCause (s : State) (e : Event) : Refusal → Prop
  | .hostBusy => (s.busy = true ∨ s.cmd ≠ none) ∧ ∃ o v, e = .writePort o v ∧ o ≤ 5
  | .readOnly => s.busy = false ∧ s.cmd = none ∧ ∃ v, e = .writePort 1 v
  | .operandRange => s.busy = false ∧ s.cmd = none ∧ ∃ o v, e = .writePort o v ∧ TooWide s o v
  | _ => False

theorem storeIfFits_refused {fits : Bool} {t : State} {r : Refusal} :
    storeIfFits fits t = .refused r ↔ fits = false ∧ r = .operandRange := by
  cases fits <;> simp [storeIfFits, refuse, eq_comm]

/-- An access is never refused by itself. -/
theorem onAccess_refused {α : Type} {x : Except Fault α} {k : α → Result} {r : Refusal} :
    onAccess x k = .refused r ↔ ∃ v, x = .ok v ∧ k v = .refused r := by
  cases x <;> simp [onAccess]

theorem hostRead_not_refused (s : State) (o : Nat) (r : Refusal) : hostRead s o ≠ .refused r := by
  unfold hostRead
  split <;> simp

/-- A free port refuses a write of STATUS, and elsewhere a value too wide for the register. -/
theorem hostWrite_refused_of_free {s : State} {o v : Nat} {r : Refusal} (hfree : ¬ portLocked s = true)
    (h : hostWrite s o v = .refused r) :
    (o = 1 ∧ r = .readOnly) ∨ (r = .operandRange ∧ TooWide s o v) := by
  have hwide : ∀ {bound : Nat} {t : State}, storeIfFits (decide (v < bound)) t = .refused r →
      r = .operandRange ∧ bound ≤ v := fun hstore => by
    obtain ⟨hnot, hr⟩ := storeIfFits_refused.1 hstore
    exact ⟨hr, Nat.le_of_not_lt (of_decide_eq_false hnot)⟩
  match o with
  | 0 =>
    obtain ⟨hr, hv⟩ := hwide ((hostWrite_cmd hfree).symm.trans h)
    exact .inr ⟨hr, .inr (.inr ⟨.inl rfl, hv⟩)⟩
  | 1 =>
    cases (hostWrite_status hfree).symm.trans h
    exact .inl ⟨rfl, rfl⟩
  | 2 =>
    obtain ⟨hr, hv⟩ := hwide ((hostWrite_argAddr hfree).symm.trans h)
    exact .inr ⟨hr, .inr (.inr ⟨.inr (.inl rfl), hv⟩)⟩
  | 3 =>
    obtain ⟨hr, hv⟩ := hwide ((hostWrite_argData hfree).symm.trans h)
    exact .inr ⟨hr, .inr (.inr ⟨.inr (.inr rfl), hv⟩)⟩
  | 4 =>
    obtain ⟨hr, hv⟩ := hwide ((hostWrite_argBuf hfree).symm.trans h)
    exact .inr ⟨hr, .inl ⟨rfl, hv⟩⟩
  | 5 =>
    obtain ⟨hr, hv⟩ := hwide ((hostWrite_argLen hfree).symm.trans h)
    exact .inr ⟨hr, .inr (.inl ⟨rfl, hv⟩)⟩
  | n + 6 => cases h

theorem hostCause_of_hostWrite {s : State} {o v : Nat} {r : Refusal} (h : hostWrite s o v = .refused r) :
    HostCause s (.writePort o v) r := by
  by_cases hlock : portLocked s = true
  · by_cases ho : o ≤ 5
    · cases (hostWrite_of_locked v hlock ho).symm.trans h
      exact ⟨portLocked_iff.1 hlock, o, v, rfl, ho⟩
    · cases (hostWrite_of_no_port s v (by omega)).symm.trans h
  · obtain ⟨hbusy, hcmd⟩ : s.busy = false ∧ s.cmd = none := by simpa [portLocked_iff] using hlock
    rcases hostWrite_refused_of_free hlock h with ⟨rfl, rfl⟩ | ⟨rfl, hv⟩
    · exact ⟨hbusy, hcmd, v, rfl⟩
    · exact ⟨hbusy, hcmd, o, v, rfl, hv⟩

/-- Of the events only a write of the port is ever refused. -/
theorem hostCause_of_perform {s : State} {e : Event} {r : Refusal} (h : perform s e = .refused r) : HostCause s e r := by
  cases e with
  | writePort o v => exact hostCause_of_hostWrite h
  | readPort o => exact absurd h (hostRead_not_refused s o r)
  | wait => exact absurd h (hostRead_not_refused s 1 r)
  | writeMem a v | readMem a =>
    obtain ⟨_, -, hnext⟩ := onAccess_refused.1 h
    cases hnext
  | reset => cases h

theorem perform_of_hostCause {s : State} {e : Event} {r : Refusal} (h : HostCause s e r) : perform s e = .refused r := by
  cases r with
  | hostBusy =>
    obtain ⟨hlock, o, v, rfl, ho⟩ := h
    exact hostWriteOfCommand.2.1 s o v hlock ho
  | readOnly =>
    obtain ⟨hbusy, hcmd, v, rfl⟩ := h
    exact (hostWriteOfCommand.1 s v hbusy hcmd).2.2
  | operandRange =>
    obtain ⟨hbusy, hcmd, o, v, rfl, hv⟩ := h
    obtain ⟨-, hcmdWide, -⟩ := hostWriteOfCommand.1 s v hbusy hcmd
    obtain ⟨-, hbuf, -, hlen, -, haddr, -, hdata⟩ := hostWriteChecksRange s v hbusy hcmd
    rcases hv with ⟨rfl, hv⟩ | ⟨rfl, hv⟩ | ⟨rfl | rfl | rfl, hv⟩
    · exact hbuf hv
    · exact hlen hv
    · exact hcmdWide hv
    · exact haddr hv
    · exact hdata hv
  | _ => exact h.elim

theorem perform_refused_iff {s : State} {e : Event} {r : Refusal} : perform s e = .refused r ↔ HostCause s e r :=
  ⟨hostCause_of_perform, perform_of_hostCause⟩

/-- Settles O59: an event is refused with a reason exactly for its cause, and only three reasons have one. -/
theorem hostRefusalsHaveTheirCauses : Obligations.HostRefusalsHaveTheirCauses := by
  refine fun s e => ⟨perform_refused_iff, perform_refused_iff, perform_refused_iff, fun r h => ?_⟩
  have hcause := hostCause_of_perform h
  cases r with
  | hostBusy => exact .inl rfl
  | readOnly => exact .inr (.inl rfl)
  | operandRange => exact .inr (.inr rfl)
  | _ => exact hcause.elim

end Sys2Proof.Machine

namespace Sys2Proof.Safety

open Sys2Proof.Machine

/-! ### The refusals of a master step (60_exceptions R233, R235) -/

/-- The STATE codes 30_encoding R84 reserves. -/
def ReservedMicroState (c : MicroCode) : Prop :=
  (0x04 ≤ c.toNat ∧ c.toNat ≤ 0x07) ∨ c.toNat = 0x17 ∨ (0x1B ≤ c.toNat ∧ c.toNat ≤ 0x1F) ∨ c.toNat = 0x26 ∨
    0x39 ≤ c.toNat

/-- When a master step is refused with a reason: the reasons of a decode in the order of 60_exceptions R235, and
InternalError outside IDLE. -/
def MasterCause (s : State) : Refusal → Prop
  | .illegalCmd => s.fsm = Micro.IDLE ∧ ∃ c, s.cmd = some c ∧ (c = 0 ∨ 4 ≤ c.toNat)
  | .notInit => s.fsm = Micro.IDLE ∧ (s.cmd = some Cmd.TRANSFER ∨ s.cmd = some Cmd.WRITE_BYTE) ∧ s.initDone = false
  | .reInit => s.fsm = Micro.IDLE ∧ s.cmd = some Cmd.INIT ∧ s.initDone = true
  | .lenZero => s.fsm = Micro.IDLE ∧ s.cmd = some Cmd.TRANSFER ∧ s.initDone = true ∧ s.argLen = 0
  | .addrRange => s.fsm = Micro.IDLE ∧ s.cmd = some Cmd.WRITE_BYTE ∧ s.initDone = true ∧ 0x7F < s.argAddr.toNat
  | .bufRange => s.fsm = Micro.IDLE ∧ s.cmd = some Cmd.TRANSFER ∧ s.initDone = true ∧ 1 ≤ s.argLen ∧
      s.params.memSize < s.argBuf + s.argLen
  | .internalError =>
      ReservedMicroState s.fsm ∨ (s.fsm = Micro.BD ∧ s.phase = 3) ∨ (s.fsm = Micro.RD2 ∧ s.bufsel = true)
  | _ => False

/-! Each cause is met with its refusal. -/

theorem masterStep_of_command {s : State} {c : Byte} {i : Instr} (hf : s.fsm = Micro.IDLE) (hc : s.cmd = some c)
    (hd : decodeCmd c = .ok i) : masterStep s = exec i s :=
  masterStep_of_fetch_ok (fetch_of_command hf hc hd)

theorem masterStep_of_masterCause {s : State} {r : Refusal} (h : MasterCause s r) : masterStep s = .refused r := by
  obtain ⟨-, hnotInit, hlenZero, hbufRange⟩ := transferDecode
  cases r with
  | illegalCmd =>
    obtain ⟨hf, c, hc, hreserved⟩ := h
    exact (reservedCodesRefused.1 c hreserved).2 s hf hc
  | notInit =>
    obtain ⟨hf, hc | hc, hdone⟩ := h
    · exact (masterStep_of_command hf hc rfl).trans (hnotInit s hdone)
    · exact (masterStep_of_command hf hc rfl).trans (writeByteDecode.2.1 s hdone)
  | reInit =>
    obtain ⟨hf, hc, hdone⟩ := h
    exact (masterStep_of_command hf hc rfl).trans (initAcceptedOnce.2 s hdone)
  | lenZero =>
    obtain ⟨hf, hc, hdone, hlen⟩ := h
    exact (masterStep_of_command hf hc rfl).trans (hlenZero s hdone hlen)
  | addrRange =>
    obtain ⟨hf, hc, hdone, haddr⟩ := h
    exact (masterStep_of_command hf hc rfl).trans (writeByteDecode.2.2 s hdone haddr)
  | bufRange =>
    obtain ⟨hf, hc, hdone, hlen, hfit⟩ := h
    exact (masterStep_of_command hf hc rfl).trans (hbufRange s hdone hlen hfit)
  | internalError =>
    rcases h with hreserved | ⟨hf, hphase⟩ | ⟨hf, hb⟩
    · exact (reservedCodesRefused.2 s.fsm hreserved).2 s rfl
    · exact (masterStep_of_micro hf (by decide) rfl).trans (bdDispatches.2.2.2.1 s hphase)
    · exact (masterStep_of_micro hf (by decide) rfl).trans (rd2StoresReceivedByte.2.1 s hb)
  | _ => exact h.elim

/-! No other refusal comes from a master step. -/

/-- Every CMD value without a command is one 30_encoding R75 reserves. -/
theorem reserved_of_not_decodeCmd {c : Byte} (hd : ∀ i, decodeCmd c ≠ .ok i) : c = 0 ∨ 4 ≤ c.toNat := by
  have hinit : c ≠ Cmd.INIT := fun hc => hd .init (hc ▸ rfl)
  have htransfer : c ≠ Cmd.TRANSFER := fun hc => hd .transfer (hc ▸ rfl)
  have hwriteByte : c ≠ Cmd.WRITE_BYTE := fun hc => hd .writeByte (hc ▸ rfl)
  bv_omega

/-- Every STATE code without a micro-state is one 30_encoding R84 reserves. -/
theorem reservedMicroState_of_not_decodeMicro {c : MicroCode} (hd : (decodeMicro c).isOk = false) :
    ReservedMicroState c := by
  revert c
  unfold ReservedMicroState
  decide

theorem masterCause_of_init {s : State} {r : Refusal} (hf : s.fsm = Micro.IDLE) (hc : s.cmd = some Cmd.INIT)
    (he : execInit s = .refused r) : MasterCause s r := by
  unfold execInit at he
  split_ifs at he with hdone <;> cases he
  exact ⟨hf, hc, hdone⟩

theorem masterCause_of_transfer {s : State} {r : Refusal} (hf : s.fsm = Micro.IDLE) (hc : s.cmd = some Cmd.TRANSFER)
    (he : execTransfer s = .refused r) : MasterCause s r := by
  unfold execTransfer at he
  split_ifs at he with hdone hlen hfit <;> cases he
  · exact ⟨hf, .inl hc, by simpa using hdone⟩
  · exact ⟨hf, hc, by simpa using hdone, hlen⟩
  · exact ⟨hf, hc, by simpa using hdone, Nat.pos_of_ne_zero hlen, hfit⟩

theorem masterCause_of_writeByte {s : State} {r : Refusal} (hf : s.fsm = Micro.IDLE)
    (hc : s.cmd = some Cmd.WRITE_BYTE) (he : execWriteByte s = .refused r) : MasterCause s r := by
  unfold execWriteByte at he
  split_ifs at he with hdone haddr <;> cases he
  · exact ⟨hf, .inr hc, by simpa using hdone⟩
  · exact ⟨hf, hc, by simpa using hdone, haddr⟩

/-- A pending command is refused for its own causes only. -/
theorem masterCause_of_command {s : State} {c : Byte} {i : Instr} {r : Refusal} (hf : s.fsm = Micro.IDLE)
    (hc : s.cmd = some c) (hd : decodeCmd c = .ok i) (he : exec i s = .refused r) : MasterCause s r := by
  have hcode := encode_of_decodeCmd hd
  rcases decodeCmd_cases hd with rfl | rfl | rfl <;> cases hcode
  · exact masterCause_of_init hf hc he
  · exact masterCause_of_transfer hf hc he
  · exact masterCause_of_writeByte hf hc he

/-- BD is refused in its last case only (30_encoding R82). -/
theorem execBd_refused {s : State} {r : Refusal} (he : execBd s = .refused r) : r = .internalError ∧ s.phase = 3 := by
  unfold execBd at he
  split_ifs at he with haddress hwrite hread
  · obtain ⟨_, -, hnext⟩ := onAccess_refused.1 he
    cases hnext
  · cases he
  · cases he
  · cases he
    simp only [Phase.ADDRESS, Phase.WRITE, Phase.READ] at haddress hwrite hread
    exact ⟨rfl, by bv_omega⟩

/-- A store into TMPBUF is refused; one into host memory is not (20_memory R53). -/
theorem execRd2_refused {s : State} {r : Refusal} (he : execRd2 s = .refused r) :
    r = .internalError ∧ s.bufsel = true := by
  unfold execRd2 bufWrite at he
  split_ifs at he with hb
  · cases he
    exact ⟨rfl, hb⟩
  · obtain ⟨_, -, hnext⟩ := onAccess_refused.1 he
    cases hnext

/-- Of the micro-states only BD and RD2 are ever refused, with InternalError. -/
theorem masterCause_of_micro {s : State} {i : Instr} {r : Refusal} (hf : s.fsm ≠ Micro.IDLE)
    (hd : decodeMicro s.fsm = .ok i) (he : exec i s = .refused r) : MasterCause s r := by
  have hcode := encode_of_decodeMicro hd
  by_cases hbuf : i ∈ [Instr.bd, .wr1, .wr5, .rd2]
  · simp only [List.mem_cons, List.not_mem_nil, or_false] at hbuf
    rcases hbuf with rfl | rfl | rfl | rfl
    · obtain ⟨rfl, hphase⟩ := execBd_refused he
      injection hcode with hfsm
      exact .inr (.inl ⟨hfsm.symm, hphase⟩)
    · obtain ⟨_, -, hnext⟩ := onAccess_refused.1 he
      cases hnext
    · obtain ⟨_, -, hnext⟩ := onAccess_refused.1 he
      cases hnext
    · obtain ⟨rfl, hb⟩ := execRd2_refused he
      injection hcode with hfsm
      exact .inr (.inr ⟨hfsm.symm, hb⟩)
  · have hidle : i ≠ .idle := by
      rintro rfl
      injection hcode with hfsm
      exact hf hfsm.symm
    obtain ⟨t, hnext⟩ := exec_next_of_not_buffer s hcode hidle hbuf
    cases hnext.symm.trans he

/-- What `fetch` itself refuses: a code that its decoder does not know. -/
theorem masterCause_of_fetch_error {s : State} {r : Refusal} (h : fetch s = .error r) : MasterCause s r := by
  rcases fetch_error h with ⟨hf, rfl⟩ | ⟨-, rfl, hd⟩
  · cases hc : s.cmd with
    | none => cases (fetch_of_idle hf hc).symm.trans h
    | some c =>
      refine ⟨hf, c, hc, reserved_of_not_decodeCmd fun i hd => ?_⟩
      cases (fetch_of_command hf hc hd).symm.trans h
  · exact .inl (reservedMicroState_of_not_decodeMicro (by rw [hd]; rfl))

theorem masterCause_of_masterStep {s : State} {r : Refusal} (h : masterStep s = .refused r) : MasterCause s r := by
  cases hfetch : fetch s with
  | ok i =>
    have he : exec i s = .refused r := (masterStep_of_fetch_ok hfetch).symm.trans h
    rcases fetch_ok hfetch with ⟨-, hc, rfl⟩ | ⟨hf, c, hc, hd⟩ | ⟨hf, hd⟩
    · cases (exec_idle_of_no_command hc).symm.trans he
    · exact masterCause_of_command hf hc hd he
    · exact masterCause_of_micro hf hd he
  | error x =>
    cases (masterStep_of_fetch_error hfetch).symm.trans h
    exact masterCause_of_fetch_error hfetch

theorem masterStep_refused_iff {s : State} {r : Refusal} : masterStep s = .refused r ↔ MasterCause s r :=
  ⟨masterCause_of_masterStep, masterStep_of_masterCause⟩

/-- Settles O10: a master step is refused with a reason exactly for its cause, and the reasons of the host's writes have
none. -/
theorem masterRefusalsHaveTheirCauses : Obligations.MasterRefusalsHaveTheirCauses := fun _ =>
  ⟨masterStep_refused_iff, masterStep_refused_iff, masterStep_refused_iff, masterStep_refused_iff,
    masterStep_refused_iff, masterStep_refused_iff, masterStep_refused_iff, masterCause_of_masterStep,
    masterCause_of_masterStep, masterCause_of_masterStep⟩

/-! ### Waits without a bound (60_exceptions R236) -/

/-- The micro-states that wait for SCL: each is a wait whose work on a high level takes no answer of SCL's and whose
successor is the next code (40_line_primitives R108, 42_bit_byte_transfer R144). -/
theorem exists_wait {c : MicroCode} (hc : c ∈ [Micro.ST1, Micro.SP3, Micro.SP6, Micro.XF3]) :
    ∃ i f, decodeMicro c = .ok i ∧ (∀ s, exec i s = waitSclHigh s c (c + 1) f) ∧
      ∀ s : State, (f s).envScl = s.envScl := by
  simp only [List.mem_cons, List.not_mem_nil, or_false] at hc
  rcases hc with rfl | rfl | rfl | rfl
  · exact ⟨.st1, id, rfl, fun _ => rfl, fun _ => rfl⟩
  · exact ⟨.sp3, id, rfl, fun _ => rfl, fun _ => rfl⟩
  · exact ⟨.sp6, id, rfl, fun _ => rfl, fun _ => rfl⟩
  · exact ⟨.xf3, sampleSda, rfl, fun _ => rfl, fun _ => rfl⟩

section
variable {s : State} (hf : s.fsm ∈ [Micro.ST1, Micro.SP3, Micro.SP6, Micro.XF3]) (harr : s.arrivals = [])
include hf harr

theorem exists_step_of_wait :
    ∃ f, step s = waitSclHigh s s.fsm (s.fsm + 1) f ∧ ∀ t : State, (f t).envScl = t.envScl := by
  obtain ⟨i, f, hd, hwait, hkeep⟩ := exists_wait hf
  have hidle : s.fsm ≠ Micro.IDLE := fun h => absurd (h ▸ hf) (by decide)
  exact ⟨f, (step_of_micro rfl hidle hd harr).trans (hwait s), hkeep⟩

/-- A low answer is taken, and nothing else changes. -/
theorem step_of_wait_low {scl : List Bool} (hscl : s.envScl = false :: scl) :
    step s = .next { s with envScl := scl } := by
  obtain ⟨f, hstep, -⟩ := exists_step_of_wait hf harr
  rw [hstep, waitSclHigh_low (.inr (nextScl_of_cons hscl)), afterSclDraw_of_cons hscl]

/-- A high answer ends the wait, where the master does not pull SCL. -/
theorem exists_step_of_wait_high {scl : List Bool} (hscl : s.envScl = true :: scl) (hpull : sclPull s = false) :
    ∃ t, step s = .next t ∧ t.fsm = s.fsm + 1 ∧ t.envScl = scl := by
  obtain ⟨f, hstep, hkeep⟩ := exists_step_of_wait hf harr
  rw [waitSclHigh_high ⟨hpull, nextScl_of_cons hscl⟩] at hstep
  refine ⟨_, hstep, settle_fsm .., ?_⟩
  simp [hkeep, afterSclDraw_of_cons hscl]

end

/-- Low answers are polled away one by one, however many they are (42_bit_byte_transfer R153). -/
theorem runs_polls (n : Nat) {s : State} {rest : List Bool} (hf : s.fsm ∈ [Micro.ST1, Micro.SP3, Micro.SP6, Micro.XF3])
    (harr : s.arrivals = []) (hscl : s.envScl = List.replicate n false ++ rest) :
    runs n s = .next { s with envScl := rest } := by
  induction n generalizing s with
  | zero =>
    have hrest : s.envScl = rest := hscl
    rw [← hrest]
    rfl
  | succ n ih => exact (runs_succ_of_next (step_of_wait_low hf harr hscl)).trans (ih hf harr rfl)

/-- Settles O52: the polls, by induction on the low answers, and then the step of the high one. -/
theorem waitsHaveNoBound : Obligations.WaitsHaveNoBound := by
  intro n s rest hf harr hscl
  have hpolls := runs_polls n hf harr hscl
  refine ⟨hpolls, fun more hmore hpull => ?_⟩
  obtain ⟨t, hstep, hfsm, henv⟩ :=
    exists_step_of_wait_high (s := { s with envScl := rest }) hf harr hmore hpull
  exact ⟨t, (runs_add hpolls).trans (runs_succ_of_next hstep), hfsm, henv⟩

end Sys2Proof.Safety

namespace Sys2Proof.Machine

/-! ### The reset event (70_reset_and_hazards R260) -/

@[simp] theorem sclPull_resetRegisters (s : State) : sclPull (resetRegisters s) = false := rfl
@[simp] theorem sdaPull_resetRegisters (s : State) : sdaPull (resetRegisters s) = false := rfl

/-- After a reset both lines are released, so their releases change exactly if one of them was pulled. -/
theorem outEvents_resetRegisters (s : State) :
    outEvents s (resetRegisters s) =
      if sclPull s = true ∨ sdaPull s = true then [.out true true] else [] := by
  unfold outEvents releases
  cases hscl : sclPull s <;> cases hsda : sdaPull s <;> simp

/-- The reset registers, with what the lines' move adds to TRACE. -/
theorem resetEvent_eq (s : State) :
    resetEvent s = { resetRegisters s with
      trace := s.trace ++ (if sclPull s = true ∨ sdaPull s = true then [.out true true] else []) } := by
  rw [← outEvents_resetRegisters]
  rfl

end Sys2Proof.Machine

namespace Sys2Proof.Safety

open Sys2Proof.Machine

/-- Settles O9: a reset is always enabled, so the due one is the whole step, and the event keeps no register. -/
theorem resetAbandonsCommand : Obligations.ResetAbandonsCommand := by
  intro s rest harr
  have hperform : step s = .next (resetEvent { s with arrivals := rest }) := step_of_due_event harr rfl
  rw [hperform, resetEvent_eq]
  rfl

end Sys2Proof.Safety
